-- ==== Sys2Proof/Word.lean ====
section
/-!
DEFINITION. Word.lean: the bit-vector types of the block. Every value of the block is unsigned (R9); the widths are
those of the parameter table R8.
-/

namespace Sys2Proof

/-- One byte: a register address, a PEC byte, a payload byte, the CRC accumulator (R8). -/
abbrev Byte := BitVec 8

/-- A 16-bit sensor register value or a DELAY count (R8). -/
abbrev Half := BitVec 16

/-- A command word, and the width of every register of the host window (R8, R80, R51). -/
abbrev Word := BitVec 32

/-- A device bus address (R8, R23). -/
abbrev Addr7 := BitVec 7

end Sys2Proof
end

