-- ==== Sys2Proof/Syntax.lean ====
section
/-!
DEFINITION. Syntax.lean: the six commands of the block (R81, R82), one constructor per row of the opcode table; the
sensor's register names (R64); and the assembler's commands, the two pseudo-instructions among them (R87, R88).
-/

namespace Sys2Proof

/-- A decoded command with its operands (R81, R83). The operand types ARE the field widths of R83. -/
inductive Instr where
  /-- INIT: `ADDR7 = w[22:16]`, `AUTO = w[0]` (R150). -/
  | init (addr7 : Addr7) (auto : BitVec 1)
  /-- READ16: `REG = w[23:16]` (R120). -/
  | read16 (reg : Byte)
  /-- WRITE16: `REG = w[23:16]`, `VAL = w[15:0]` (R130). -/
  | write16 (reg : Byte) (val : Half)
  /-- PECCLR: no operand (R110). -/
  | pecclr
  /-- PECBYTE: `BYTE = w[23:16]` (R111). -/
  | pecbyte (byte : Byte)
  /-- DELAY: `MS = w[15:0]` (R151). -/
  | delay (ms : Half)
  deriving DecidableEq, Repr

/-- The sensor registers the source names (R64). -/
inductive SensorReg where
  | rawir1 | rawir2 | ambient | object1 | object2
  | tomax | tomin | pwmctrl | tarange | emissivity | config | address
  | id1 | id2 | id3 | id4
  deriving DecidableEq, Repr

/-- The two classes of sensor registers (R64, Glossary). -/
inductive SensorClass where
  | ram
  | eeprom
  deriving DecidableEq, Repr

/-- One line of assembler source with its operands as the numbers written there (R87), the pseudo-instructions `PEC`
and `EWRITE` among them (R88). A number may be too large for its field: see WellFormed.lean. -/
inductive AsmCmd where
  | init (addr7 auto : Nat)
  | read16 (reg : Nat)
  | write16 (reg val : Nat)
  | pecclr
  | pecbyte (byte : Nat)
  | delay (ms : Nat)
  | pec (bytes : List Nat)
  | ewrite (reg val : Nat)
  deriving DecidableEq, Repr

/-- One operand as written in the source text: a number, or a register name after `%` (R87). -/
inductive AsmOperand where
  | number (n : Nat)
  | register (r : SensorReg)
  deriving DecidableEq, Repr

end Sys2Proof
end

