-- ==== Sys2Proof/WellFormed.lean ====
section
/-!
DEFINITION. WellFormed.lean: what makes a command well formed. A decoded `Instr` carries its operands at their field
widths (R83), so every `Instr` is well formed by its type and no check is left to make. An assembler command carries
plain numbers, and "an operand that does not fit its field ... is an assembler error, not a truncation" (R87): that
check is here.
-/

namespace Sys2Proof

/-- `n` fits an unsigned field of `bits` bits (R87). -/
def fits (bits n : Nat) : Bool := decide (n < 2 ^ bits)

/-- Every operand of the assembler command fits its field (R87; the operands of `PEC` and `EWRITE` are those of the
commands they expand to, R88). -/
def AsmCmd.wellFormed : AsmCmd → Bool
  | .init a u => fits 7 a && fits 1 u
  | .read16 r => fits 8 r
  | .write16 r v => fits 8 r && fits 16 v
  | .pecclr => true
  | .pecbyte b => fits 8 b
  | .delay ms => fits 16 ms
  | .pec bs => bs.all (fits 8)
  | .ewrite r v => fits 8 r && fits 16 v

end Sys2Proof
end

