-- ==== Sys2Proof/Decode.lean ====
section
/-!
DEFINITION. Decode.lean: the fields of a command word (R80, R83), decoding (R84, R86), encoding (R82, R86) and the
opcode table's mask and match (R82). Decoding is total on every 32-bit word: a command or a named reason why the word
is illegal.
-/

namespace Sys2Proof

/-- Why a word is illegal: R84 lists exactly these cases. The block itself keeps no reason (R171, code 5); the names
are the model's (log entry 23). -/
inductive IllegalWord where
  /-- OP is 0x0 or 0x7 to 0xF. -/
  | reservedOp
  /-- Z = w[27:24] is not 0. -/
  | zNotZero
  /-- INIT with A[23] = 1. -/
  | initBit23
  /-- INIT with V[15:1] not 0. -/
  | initV
  /-- READ16 with V not 0. -/
  | read16V
  /-- PECCLR with A or V not 0. -/
  | pecclrOperand
  /-- PECBYTE with V not 0. -/
  | pecbyteV
  /-- DELAY with A not 0. -/
  | delayA
  deriving DecidableEq, Repr

/-- OP = w[31:28] (R80). -/
def opField (w : Word) : BitVec 4 := w.extractLsb' 28 4

/-- Z = w[27:24] (R80). -/
def zField (w : Word) : BitVec 4 := w.extractLsb' 24 4

/-- A = w[23:16] (R80): REG of READ16 and WRITE16, BYTE of PECBYTE (R83). -/
def aField (w : Word) : Byte := w.extractLsb' 16 8

/-- V = w[15:0] (R80): VAL of WRITE16, MS of DELAY (R83). -/
def vField (w : Word) : Half := w.extractLsb' 0 16

/-- ADDR7 = w[22:16] (R83). -/
def addr7Field (w : Word) : Addr7 := w.extractLsb' 16 7

/-- AUTO = w[0] (R83). -/
def autoField (w : Word) : BitVec 1 := w.extractLsb' 0 1

/-- `decode(w)` of R86: the Z test, then the OP field, then the command's other must-be-zero bits. -/
def decode (w : Word) : Except IllegalWord Instr :=
  if zField w = 0#4 then
    if opField w = 0x1#4 then
      if w.extractLsb' 23 1 = 0#1 then
        if w.extractLsb' 1 15 = 0#15 then .ok (.init (addr7Field w) (autoField w)) else .error .initV
      else .error .initBit23
    else if opField w = 0x2#4 then
      if vField w = 0#16 then .ok (.read16 (aField w)) else .error .read16V
    else if opField w = 0x3#4 then .ok (.write16 (aField w) (vField w))
    else if opField w = 0x4#4 then
      if w.extractLsb' 0 24 = 0#24 then .ok .pecclr else .error .pecclrOperand
    else if opField w = 0x5#4 then
      if vField w = 0#16 then .ok (.pecbyte (aField w)) else .error .pecbyteV
    else if opField w = 0x6#4 then
      if aField w = 0#8 then .ok (.delay (vField w)) else .error .delayA
    else .error .reservedOp
  else .error .zNotZero

/-- `w` is one of the six commands (R84, R85). -/
def legalWord (w : Word) : Bool := (decode w).isOk

/-- The one format, with Z = 0: `(OP << 28) | (A << 16) | V` (R80, R86). -/
def packWord (op : BitVec 4) (a : Byte) (v : Half) : Word :=
  (op.setWidth 32 <<< 28) ||| (a.setWidth 32 <<< 16) ||| v.setWidth 32

/-- `encode(cmd)` (R86), with the fields of R82. -/
def encode : Instr → Word
  | .init a u => packWord 0x1#4 (a.setWidth 8) (u.setWidth 16)
  | .read16 r => packWord 0x2#4 r 0#16
  | .write16 r v => packWord 0x3#4 r v
  | .pecclr => packWord 0x4#4 0#8 0#16
  | .pecbyte b => packWord 0x5#4 b 0#16
  | .delay ms => packWord 0x6#4 0#8 ms

/-- The mask of the command's row of R82. -/
def rowMask : Instr → Word
  | .init _ _ => 0xFF80FFFE#32
  | .read16 _ => 0xFF00FFFF#32
  | .write16 _ _ => 0xFF000000#32
  | .pecclr => 0xFFFFFFFF#32
  | .pecbyte _ => 0xFF00FFFF#32
  | .delay _ => 0xFFFF0000#32

/-- The match of the command's row of R82. -/
def rowMatch : Instr → Word
  | .init _ _ => 0x10000000#32
  | .read16 _ => 0x20000000#32
  | .write16 _ _ => 0x30000000#32
  | .pecclr => 0x40000000#32
  | .pecbyte _ => 0x50000000#32
  | .delay _ => 0x60000000#32

/-- The 32-bit command word whose low `nbits` bits are those of `w` and whose other bits are 0: every command is one
word of 32 bits (R80), numbered as R9 numbers it. -/
def tableWord (nbits w : Nat) : Word := BitVec.ofNat 32 (w % 2 ^ nbits)

/-- The command the decoder reads from a word of the opcode table (log entry 20). -/
def decodeTableWord (nbits w : Nat) : Option Instr :=
  if nbits ≤ 32 then (decode (tableWord nbits w)).toOption else none

end Sys2Proof
end

