-- ==== Sys2Proof/Config.lean ====
section
/-!
DEFINITION. Config.lean: the contract of the bus-transport collaborator (R59, R182) and the one open parameter of the
block, the transport oracle (R8, R59, D20). The oracle has no body: nothing in Lean can say which answer it gives.
-/

namespace Sys2Proof

/-- The five calls of the transport port, with their arguments (R59). The address is the device address UNSHIFTED
(R60). -/
inductive Call where
  /-- `Send1RS(addr7, b)`: one byte, the bus left held with a repeated start. -/
  | send1RS (addr : Addr7) (b : Byte)
  /-- `SendNStop(addr7, bytes, n)`: `n` bytes, ended with a stop condition. -/
  | sendNStop (addr : Addr7) (bytes : List Byte) (n : Nat)
  /-- `Recv(addr7, n)`: receive exactly `n` bytes. -/
  | recv (addr : Addr7) (n : Nat)
  /-- `Delay(ms)`: wait; the call has no answer. -/
  | delay (ms : Half)
  /-- `InitBus()`: the transport's bus initialization. -/
  | initBus
  deriving DecidableEq, Repr

/-- What a call is answered with in the trace (R59): OK, FAIL, OK with bytes (`Recv`), or nothing (`Delay`). -/
inductive Answer where
  | noAnswer
  | ok
  | fail
  | bytes (bs : List Byte)
  deriving DecidableEq, Repr

/-- One event of the trace: a call and its answer (R59). -/
structure Event where
  call : Call
  answer : Answer
  deriving DecidableEq, Repr

/-- One draw of the transport oracle, enough for any call the block makes: OK or FAIL, and the three bytes a `Recv`
answered OK delivers (R59, R63: the block receives no other count). -/
structure Draw where
  ok : Bool
  b0 : Byte
  b1 : Byte
  b2 : Byte
  deriving DecidableEq, Repr, Inhabited

/-- The **transport oracle** (R59, D20): the answer of the transport to a call, as a FREE VALUE of the number of the
draw, the trace so far and the call itself. It has no body, so no proof can lean on any answer (log entry 2). -/
opaque Config.oracle : Nat → List Event → Call → Draw

end Sys2Proof
end

