-- ==== Sys2Proof/Machine/State.lean ====
section
/-!
DEFINITION. Machine/State.lean: the state of the machine as plain data, the reasons a step can stop, and the state
after reset. The state has one part per agent of R6: the block (R20, R31), the bus-transport collaborator with the
model's trace (R59), and the host with what it is about to do (R53, R160).
-/

namespace Sys2Proof.Machine

/-- The 4-byte send buffer, byte 0 sent first: `[REG, value low, value high, PEC]` (R30, R130). -/
structure Frame where
  reg : Byte
  lo : Byte
  hi : Byte
  pec : Byte
  deriving DecidableEq, Repr

/-- The block's state: the elements of R20, and BUSHELD (R31). -/
structure Block where
  /-- DEVADDR: the device bus address (R23). -/
  devaddr : Addr7
  /-- AUTOINIT: the AUTO bit of the last INIT (R24). -/
  autoinit : BitVec 1
  /-- ACC: the shared CRC accumulator (R25). -/
  acc : Byte
  /-- STATUS[4:0] = {VALID, CAUSE, OK}; bits 31:5 are reserved and read as 0 (R26). -/
  status : BitVec 5
  /-- RDATA, or UNWRITTEN as `none` (R28, R32). -/
  rdata : Option Half
  /-- RPEC, or UNWRITTEN as `none` (R29, R32). -/
  rpec : Option Byte
  /-- TXFRAME, or UNWRITTEN as `none` (R30, R32). -/
  txframe : Option Frame
  /-- BUSHELD: true inside READ16 from a successful `Send1RS` until the `Recv` that follows (R31). -/
  busheld : Bool
  deriving DecidableEq, Repr

/-- The transport collaborator as the block sees it: the trace of calls and answers (R59), and where the next answers
come from. `answers` and `draws` are the MODEL's own fields (log entries 3 and 4), no hardware state. -/
structure Transport where
  /-- The calls issued since reset with their answers, oldest first (R20, R59). -/
  trace : List Event
  /-- The answers the transport will give to the next calls, first one first; once the list is empty the answers are
  draws of the oracle. -/
  answers : List Draw
  /-- How many calls have been answered: the number of the next draw. -/
  draws : Nat
  deriving DecidableEq, Repr

/-- Something done to the block from outside, between commands: a host access of the register window (R10, R52) or the
reset event (R200). Offsets and widths are in bytes. -/
inductive Stimulus where
  /-- `MemRead(off, width)`. -/
  | read (off width : Nat)
  /-- `MemWrite(off, width, v)`. -/
  | write (off width : Nat) (v : Word)
  /-- Power-up or assertion of reset. -/
  | reset
  deriving DecidableEq, Repr

/-- What an admitted host read is answered with (R32, R54). -/
inductive ReadAnswer where
  /-- The value of the register read. -/
  | value (v : Word)
  /-- The read is refused, because its content includes an UNWRITTEN element: it has no meaning and returns no number
  (R32). The machine itself goes on (log entry 11). -/
  | refused
  deriving DecidableEq, Repr

/-- A host read: the offset read and the answer. -/
structure HostRead where
  off : Nat
  answer : ReadAnswer
  deriving DecidableEq, Repr

/-- How a command program ended (R161, R162). -/
inductive ProgramEnd where
  | success
  | failure (k : Nat)
  deriving DecidableEq, Repr

/-- The host: what it is about to do, what it has read, and its command program with the index k (R160, R161). None of
it is in the block (R22). -/
structure HostSide where
  /-- What happens to the block next, first one first; done before the program goes on (the model's queue, log entry 6). -/
  pending : List Stimulus
  /-- What host reads were answered, oldest first (the model's record, log entry 7). -/
  hostReads : List HostRead
  /-- The command program P (R160). -/
  program : List Word
  /-- The index k (R160). -/
  index : Nat
  /-- `none` while the program runs or when there is none (R161). -/
  programEnd : Option ProgramEnd
  deriving DecidableEq, Repr

/-- The whole machine: the block, the transport and the host (R6). -/
structure State where
  block : Block
  transport : Transport
  host : HostSide
  deriving DecidableEq, Repr

/-- The registers of the host window (R51). -/
inductive WindowReg where
  | cmd | status | result | pecacc | config | txframe
  deriving DecidableEq, Repr

/-- The reasons the machine stops with a fault. There is none: the block has no trap mechanism (R176), a failure is
reported in STATUS and the machine goes on (R172, R173), and every transport call is answered (R59). -/
inductive Fault where
  deriving DecidableEq, Repr

/-- The reasons the model gives a step no meaning. None is raised by a command. -/
inductive Refusal where
  /-- An instruction that has no meaning yet; raised by no arm of exec now. Safe. -/
  | notModelled (mnemonic : String)
  /-- Raised by a host access whose width is not 4 bytes (R52, U2). Safe: the machine stops. -/
  | hostWidth
  /-- Raised by a host access whose offset is not a multiple of 4 (R52, R72, U2). Safe. -/
  | hostMisaligned
  /-- Raised by a host access at offset 0x18 or above (R51, R52, U2). Safe. -/
  | hostUnmapped
  /-- Raised by a host read of CMD, which is write only (R51, R52, U2). Safe. -/
  | hostReadOfCmd
  /-- Raised by a host write of a read-only register (R51, R52, U2). Safe. -/
  | hostWriteOfReadOnly
  /-- Raised by a launch with more than one host (R68, R183, U4). Safe. -/
  | concurrentHosts
  deriving DecidableEq, Repr

/-- The block after reset (R200); BUSHELD is false: no READ16 is under way (R31, log entry 12). -/
def Block.reset : Block where
  devaddr := 0x5A#7
  autoinit := 0#1
  acc := 0x00#8
  status := 0#5
  rdata := none
  rpec := none
  txframe := none
  busheld := false

/-- The machine right after power-up: the block as R200 says, an empty trace, and a host that has nothing to do. The
reset values of the model's own fields are DESIGN CHOICE (log entries 3, 4, 6, 7, 8). -/
def State.reset : State where
  block := Block.reset
  transport := { trace := [], answers := [], draws := 0 }
  host := { pending := [], hostReads := [], program := [], index := 0, programEnd := none }

end Sys2Proof.Machine
end

