-- ==== Sys2Proof/Machine/Flags.lean ====
section
/-!
DEFINITION. Machine/Flags.lean: the STATUS register: its fields (R26), the cause codes (R171) and the three values a
command can write (R172, R173, R174).
-/

namespace Sys2Proof.Machine

/-- The four phases whose failure is a bus failure (R171, R172). -/
inductive BusPhase where
  | ptr | recv | send | businit
  deriving DecidableEq, Repr

/-- The CAUSE code of a failing phase (R171). -/
def busCause : BusPhase → BitVec 3
  | .ptr => 1#3
  | .recv => 2#3
  | .send => 3#3
  | .businit => 4#3

/-- The CAUSE code ILLEGAL (R171). -/
def illegalCause : BitVec 3 := 5#3

/-- STATUS[4:0] from its fields (R26). -/
def packStatus (valid : BitVec 1) (cause : BitVec 3) (ok : BitVec 1) : BitVec 5 := valid ++ cause ++ ok

/-- What `complete()` writes (R174): 0x11. -/
def statusSuccess : BitVec 5 := packStatus 1#1 0#3 1#1

/-- What a failure with cause `c` writes (R172, R173): `0x10 | (c << 1)`. -/
def statusFailure (c : BitVec 3) : BitVec 5 := packStatus 1#1 c 0#1

/-- STATUS.OK, bit 0: the block's only flag (R26, R27). -/
def statusOk (st : BitVec 5) : Bool := st.getLsbD 0

/-- STATUS.CAUSE, bits 3:1 (R26). -/
def statusCause (st : BitVec 5) : BitVec 3 := st.extractLsb' 1 3

/-- STATUS.VALID, bit 4 (R26). -/
def statusValid (st : BitVec 5) : Bool := st.getLsbD 4

/-- STATUS as the host reads it: 32 bits, the reserved bits 0 (R26). -/
def statusWord (st : BitVec 5) : Word := st.setWidth 32

end Sys2Proof.Machine
end

