-- ==== Sys2Proof/Machine/Operands.lean ====
section
/-!
DEFINITION. Machine/Operands.lean: how the block takes operands apart and puts results together: the payload split
(R131) and assembly (R121), the write address byte, the write PEC and the write frame (R132). The fields of a command
word are taken in Decode.lean (R83).
-/

namespace Sys2Proof.Machine

/-- `lo(v) = v[7:0]`, sent first (R131). -/
def lowByte (v : Half) : Byte := v.extractLsb' 0 8

/-- `hi(v) = v[15:8]`, sent second (R131). -/
def highByte (v : Half) : Byte := v.extractLsb' 8 8

/-- `b0 | (b1 << 8)` (R121). -/
def assemble16 (b0 b1 : Byte) : Half := b0.setWidth 16 ||| (b1.setWidth 16 <<< 8)

/-- The bus "write" address byte `(zext_8(DEVADDR) << 1)[7:0]` (R130). -/
def writeAddressByte (addr : Addr7) : Byte := addr.setWidth 8 <<< 1

/-- `write_pec(DEVADDR, REG, VAL)` (R132). -/
def writePec (addr : Addr7) (reg : Byte) (val : Half) : Byte :=
  pec [writeAddressByte addr, reg, lowByte val, highByte val]

/-- `write_frame(DEVADDR, REG, VAL)` (R132). -/
def writeFrame (addr : Addr7) (reg : Byte) (val : Half) : Frame where
  reg := reg
  lo := lowByte val
  hi := highByte val
  pec := writePec addr reg val

/-- The frame as the byte sequence sent, byte 0 first (R30, R130). -/
def frameBytes (f : Frame) : List Byte := [f.reg, f.lo, f.hi, f.pec]

/-- What a receiver that sees the address byte and then the frame computes; 0 says the frame is intact (R133). -/
def receiverCheck (addr : Addr7) (frame : List Byte) : Byte := pec (writeAddressByte addr :: frame)

end Sys2Proof.Machine
end

