-- ==== Sys2Proof/Machine/Ops.lean ====
section
/-!
DEFINITION. Machine/Ops.lean: the named operations over the state. A meaning reads and writes state only through them:
the register writes (R20), the transport calls with their answers and the trace (R59), the three ways a command ends
(R172, R173, R174: this block's "taking an exception"; it has no return from one, R177), and the reset event (R200).
-/

namespace Sys2Proof.Machine

/-- Write DEVADDR and AUTOINIT (R23, R24; INIT alone does). -/
def State.setDevice (s : State) (addr : Addr7) (auto : BitVec 1) : State :=
  { s with block.devaddr := addr, block.autoinit := auto }

/-- Write ACC (R25). -/
def State.setAcc (s : State) (v : Byte) : State := { s with block.acc := v }

/-- Write RDATA and RPEC together (R28, R29). -/
def State.setResult (s : State) (v : Half) (p : Byte) : State :=
  { s with block.rdata := some v, block.rpec := some p }

/-- Write TXFRAME (R30). -/
def State.setTxframe (s : State) (f : Frame) : State := { s with block.txframe := some f }

/-- Write BUSHELD (R31). -/
def State.setBusheld (s : State) (b : Bool) : State := { s with block.busheld := b }

/-- Write STATUS (R26). -/
def State.setStatus (s : State) (st : BitVec 5) : State := { s with block.status := st }

/-- The oracle's draw for call `c`, issued now (R59): the first of the given answers, else a free draw (log entries 2
and 3). -/
def State.drawFor (s : State) (c : Call) : Draw :=
  match s.transport.answers with
  | d :: _ => d
  | [] => Config.oracle s.transport.draws s.transport.trace c

/-- The answer of the call's own type that a draw stands for (R59). -/
def answerOf (c : Call) (d : Draw) : Answer :=
  match c with
  | .send1RS _ _ => if d.ok then .ok else .fail
  | .sendNStop _ _ _ => if d.ok then .ok else .fail
  | .recv _ _ => if d.ok then .bytes [d.b0, d.b1, d.b2] else .fail
  | .delay _ => .noAnswer
  | .initBus => if d.ok then .ok else .fail

/-- Issue an answered call: append it with its answer to the trace and use up the draw (R59). -/
def State.issue (s : State) (c : Call) : State :=
  { s with
    transport :=
      { trace := s.transport.trace ++ [{ call := c, answer := answerOf c (s.drawFor c) }]
        answers := s.transport.answers.tail
        draws := s.transport.draws + 1 } }

/-- `Send1RS(addr7, b)`: answered OK, it leaves the bus held (R31, R59). -/
def State.send1RS (s : State) (addr : Addr7) (b : Byte) : State :=
  (s.issue (.send1RS addr b)).setBusheld (s.drawFor (.send1RS addr b)).ok

/-- `Recv(addr7, 3)`: whatever the answer, BUSHELD ends with it (R31, R59, R63). -/
def State.recv3 (s : State) (addr : Addr7) : State := (s.issue (.recv addr 3)).setBusheld false

/-- `SendNStop(addr7, frame, 4)` (R59, R63). -/
def State.sendFrame (s : State) (addr : Addr7) (f : Frame) : State := s.issue (.sendNStop addr (frameBytes f) 4)

/-- `InitBus()` (R59). -/
def State.initBus (s : State) : State := s.issue .initBus

/-- `Delay(ms)`: recorded; it has no answer and draws none (R59, R151). -/
def State.delayCall (s : State) (ms : Half) : State :=
  { s with
    transport.trace := s.transport.trace ++ [{ call := .delay ms, answer := .noAnswer }] }

/-- `complete()` (R174). -/
def State.complete (s : State) : State := s.setStatus statusSuccess

/-- `raise BusFailure(c)` (R172): the command's earlier writes stay and nothing else is written. -/
def State.raiseBusFailure (s : State) (c : BusPhase) : State := s.setStatus (statusFailure (busCause c))

/-- The end of a command at its last transport call: `complete()` if the call was answered OK, else
`raise BusFailure(c)` (R172, R174). Only STATUS depends on the answer. -/
def State.endOn (s : State) (ok : Bool) (c : BusPhase) : State :=
  s.setStatus (if ok then statusSuccess else statusFailure (busCause c))

/-- `raise IllegalCommand()` (R173). -/
def State.raiseIllegalCommand (s : State) : State := s.setStatus (statusFailure illegalCause)

/-- The reset event (R200, R201): every element of R20 at its reset value and the trace empty; no transport call, and
nothing of the host or of the answers to come is touched (log entry 9). -/
def State.assertReset (s : State) : State := { s with block := Block.reset, transport.trace := [] }

/-- Note what a host read was answered (log entry 7). -/
def State.logRead (s : State) (off : Nat) (a : ReadAnswer) : State :=
  { s with host.hostReads := s.host.hostReads ++ [{ off := off, answer := a }] }

/-- Leave these things to be done to the block next (log entry 6). -/
def State.setPending (s : State) (p : List Stimulus) : State := { s with host.pending := p }

/-- Go on from a next state; a stop stays the same stop. -/
def andThen (o : Host.Outcome State Fault Refusal) (f : State → Host.Outcome State Fault Refusal) :
    Host.Outcome State Fault Refusal :=
  match o with
  | .next s => f s
  | .fault r => .fault r
  | .refused r => .refused r

end Sys2Proof.Machine
end

