-- ==== Sys2Proof/Machine/Checksum.lean ====
section
/-!
DEFINITION. Machine/Checksum.lean: the checksum engine commands PECCLR (R110) and PECBYTE (R111).
-/

namespace Sys2Proof.Machine

/-- PECCLR (R110). -/
def execPecclr (s : State) : Host.Outcome State Fault Refusal := .next (s.setAcc 0x00#8).complete

/-- PECBYTE (R111). -/
def execPecbyte (byte : Byte) (s : State) : Host.Outcome State Fault Refusal :=
  .next (s.setAcc (crc8Step s.block.acc byte)).complete

end Sys2Proof.Machine
end

