-- ==== Sys2Proof/Machine/Control.lean ====
section
/-!
DEFINITION. Machine/Control.lean: the control commands INIT (R150) and DELAY (R151).
-/

namespace Sys2Proof.Machine

/-- INIT (R150): the address and the AUTO bit are stored first, then the bus is initialized if AUTO = 1. -/
def execInit (addr7 : Addr7) (auto : BitVec 1) (s : State) : Host.Outcome State Fault Refusal :=
  let s1 := s.setDevice addr7 auto
  .next (if auto = 1#1 then s1.initBus.endOn (s1.drawFor .initBus).ok .businit else s1.complete)

/-- DELAY (R151). -/
def execDelay (ms : Half) (s : State) : Host.Outcome State Fault Refusal := .next (s.delayCall ms).complete

end Sys2Proof.Machine
end

