-- ==== Sys2Proof/Machine/RegisterTransport.lean ====
section
/-!
DEFINITION. Machine/RegisterTransport.lean: the register transport commands READ16 (R120) and WRITE16 (R130).
-/

namespace Sys2Proof.Machine

/-- Phase 2 of READ16, from the state the pointer phase leaves (R120). -/
def read16Receive (s : State) : State :=
  let d := s.drawFor (.recv s.block.devaddr 3)
  let s' := s.recv3 s.block.devaddr
  if d.ok then (s'.setResult (assemble16 d.b0 d.b1) d.b2).complete else s'.raiseBusFailure .recv

/-- READ16 (R120): the register pointer phase, then the receive phase. -/
def execRead16 (reg : Byte) (s : State) : Host.Outcome State Fault Refusal :=
  .next
    (if (s.drawFor (.send1RS s.block.devaddr reg)).ok then read16Receive (s.send1RS s.block.devaddr reg)
     else (s.send1RS s.block.devaddr reg).raiseBusFailure .ptr)

/-- What WRITE16 writes before the send phase: ACC and TXFRAME (R130). -/
def write16Build (reg : Byte) (val : Half) (s : State) : State :=
  (s.setAcc (writePec s.block.devaddr reg val)).setTxframe (writeFrame s.block.devaddr reg val)

/-- WRITE16 (R130): build the frame with its PEC, then send it. -/
def execWrite16 (reg : Byte) (val : Half) (s : State) : Host.Outcome State Fault Refusal :=
  let f := writeFrame s.block.devaddr reg val
  let s1 := write16Build reg val s
  .next
    ((s1.sendFrame s.block.devaddr f).endOn (s1.drawFor (.sendNStop s.block.devaddr (frameBytes f) 4)).ok .send)

end Sys2Proof.Machine
end

