-- ==== Sys2Proof/Machine/Dispatch.lean ====
section
/-!
DEFINITION. Machine/Dispatch.lean: the meaning of each command (R81).
-/

namespace Sys2Proof.Machine

/-- Run one decoded command to completion (R11, R53). -/
def exec (i : Instr) (s : State) : Host.Outcome State Fault Refusal :=
  match i with
  | .init addr7 auto => Sys2Proof.Machine.execInit addr7 auto s
  | .read16 reg => Sys2Proof.Machine.execRead16 reg s
  | .write16 reg val => Sys2Proof.Machine.execWrite16 reg val s
  | .pecclr => Sys2Proof.Machine.execPecclr s
  | .pecbyte byte => Sys2Proof.Machine.execPecbyte byte s
  | .delay ms => Sys2Proof.Machine.execDelay ms s

end Sys2Proof.Machine
end

