-- ==== Sys2Proof/Machine/Window.lean ====
section
/-!
DEFINITION. Machine/Window.lean: the host register window: its map (R51), which accesses are admitted (R52, R72) and
what a read is answered: a value, or refused while the content is UNWRITTEN (R32, R54 to R58).
-/

namespace Sys2Proof.Machine

/-- The register at a byte offset (R51). -/
def windowAt (off : Nat) : Option WindowReg :=
  if off = 0x00 then some .cmd
  else if off = 0x04 then some .status
  else if off = 0x08 then some .result
  else if off = 0x0C then some .pecacc
  else if off = 0x10 then some .config
  else if off = 0x14 then some .txframe
  else none

/-- The register an access of `width` bytes at `off` reaches, or why it is refused (R52, R72). Where several reasons
hold, the first of width, alignment, offset is named (log entry 10). -/
def windowAccess (off width : Nat) : Except Refusal WindowReg :=
  if width ≠ 4 then .error .hostWidth
  else if off % 4 ≠ 0 then .error .hostMisaligned
  else
    match windowAt off with
    | some r => .ok r
    | none => .error .hostUnmapped

/-- RESULT = {8'h00, RPEC, RDATA} (R51, R55). -/
def resultWord (v : Half) (p : Byte) : Word := 0x00#8 ++ p ++ v

/-- PECACC = {24'h000000, ACC} (R51, R56). -/
def pecaccWord (acc : Byte) : Word := 0x000000#24 ++ acc

/-- CONFIG = {23'h0, AUTOINIT, 1'b0, DEVADDR} (R51, R57). -/
def configWord (auto : BitVec 1) (addr : Addr7) : Word := 0#23 ++ auto ++ 0#1 ++ addr

/-- TXFRAME = {byte3, byte2, byte1, byte0} (R51, R58). -/
def txframeWord (f : Frame) : Word := f.pec ++ f.hi ++ f.lo ++ f.reg

/-- A read of RESULT: its value, or refused while RDATA and RPEC are UNWRITTEN (R32, R55). -/
def resultAnswer (b : Block) : ReadAnswer :=
  match b.rdata, b.rpec with
  | some v, some p => .value (resultWord v p)
  | some _, none => .refused
  | none, some _ => .refused
  | none, none => .refused

/-- A read of TXFRAME: its value, or refused while it is UNWRITTEN (R32, R58). -/
def txframeAnswer (b : Block) : ReadAnswer :=
  match b.txframe with
  | some f => .value (txframeWord f)
  | none => .refused

/-- What a read of a window register is answered (R55 to R58), or why it is no admitted access (R52). -/
def windowAnswer (b : Block) : WindowReg → Except Refusal ReadAnswer
  | .cmd => .error .hostReadOfCmd
  | .status => .ok (.value (statusWord b.status))
  | .result => .ok (resultAnswer b)
  | .pecacc => .ok (.value (pecaccWord b.acc))
  | .config => .ok (.value (configWord b.autoinit b.devaddr))
  | .txframe => .ok (txframeAnswer b)

/-- What `MemRead(off, width)` is answered, or why it is no admitted access (R52). -/
def readAnswer (off width : Nat) (b : Block) : Except Refusal ReadAnswer :=
  match windowAccess off width with
  | .ok r => windowAnswer b r
  | .error e => .error e

/-- The host access `MemRead(off, width)` (R54): the answer goes to the host and nothing else happens. -/
def memRead (off width : Nat) (s : State) : Host.Outcome State Fault Refusal :=
  match readAnswer off width s.block with
  | .ok a => .next (s.logRead off a)
  | .error e => .refused e

end Sys2Proof.Machine
end

