-- ==== Sys2Proof/Machine/HostPort.lean ====
section
/-!
DEFINITION. Machine/HostPort.lean: how commands reach the block: the CMD write (R53), the other stimuli, the host's
command program under stop at first failure (R160, R161), and a launch (R68).
-/

namespace Sys2Proof.Machine

/-- Run the command a word stands for: decode it, then run its rule or raise IllegalCommand (R53, R84, R173). -/
def runWord (w : Word) (s : State) : Host.Outcome State Fault Refusal :=
  match decode w with
  | .ok i => exec i s
  | .error _ => .next s.raiseIllegalCommand

/-- Run decoded commands one after another, each to completion (R66). -/
def runInstrs : List Instr → State → Host.Outcome State Fault Refusal
  | [], s => .next s
  | i :: is, s => andThen (exec i s) (runInstrs is)

/-- The host access `MemWrite(off, width, v)` (R52, R53). -/
def memWrite (off width : Nat) (v : Word) (s : State) : Host.Outcome State Fault Refusal :=
  match windowAccess off width with
  | .ok .cmd => runWord v s
  | .ok _ => .refused .hostWriteOfReadOnly
  | .error e => .refused e

/-- One thing done to the block from outside. -/
def applyStimulus (x : Stimulus) (s : State) : Host.Outcome State Fault Refusal :=
  match x with
  | .read off width => memRead off width s
  | .write off width v => memWrite off width v s
  | .reset => .next s.assertReset

/-- Stop at first failure (R161), on the STATUS.OK the host has read: the index and the end of the program. -/
def applyPolicy (s : State) : State :=
  if statusOk s.block.status then
    if s.host.index + 1 < s.host.program.length then { s with host.index := s.host.index + 1 }
    else { s with host.programEnd := some .success }
  else { s with host.programEnd := some (.failure s.host.index) }

/-- One step of the command program (R160): write the word to CMD, read STATUS, apply R161. -/
def programStep (w : Word) (s : State) : Host.Outcome State Fault Refusal :=
  andThen (memWrite 0x00 4 w s) fun s1 =>
    andThen (memRead 0x04 4 s1) fun s2 => .next (applyPolicy s2)

/-- The word the command program issues next, while it runs (R160, R161). -/
def nextWord (h : HostSide) : Option Word :=
  match h.programEnd with
  | none => h.program[h.index]?
  | some _ => none

/-- One step of the machine: the first pending stimulus if there is one, else one step of the command program, else
nothing: the block is idle whenever no CMD write is in progress (R66, R185; log entries 6 and 22). -/
def hostStep (s : State) : Host.Outcome State Fault Refusal :=
  match s.host.pending with
  | x :: rest => applyStimulus x (s.setPending rest)
  | [] =>
    match nextWord s.host with
    | some w => programStep w s
    | none => .next s

/-- The host takes up a command program, index 0 (R160). A program of no words has nothing to issue and has ended (log
entry 8). -/
def State.loadProgram (s : State) (p : List Word) : State :=
  { s with
    host.program := p
    host.index := 0
    host.programEnd := if p.isEmpty then some .success else none }

/-- A launch: the machine after reset with the one host's command program; a launch with further hosts is refused (R68,
R183). -/
def launch (p : List Word) (otherHosts : List (List Word)) : Host.Outcome State Fault Refusal :=
  if otherHosts.isEmpty then .next (State.reset.loadProgram p) else .refused .concurrentHosts

end Sys2Proof.Machine
end

