-- ==== Sys2Proof/Machine/Step.lean ====
section
/-!
DEFINITION. Machine/Step.lean: one step of the machine, and how a command word is put where the next step takes its
command from. The block fetches nothing (R22, R69): a command is pushed by a host write to CMD.
-/

namespace Sys2Proof.Machine

/-- One step of the machine. -/
def step (s : State) : Host.Outcome State Fault Refusal := hostStep s

/-- `s` with a host write of the command word to CMD as the very next thing done to the block (log entry 6). -/
def State.withFetchWord (s : State) (nbits w : Nat) : State :=
  s.setPending (.write 0x00 4 (tableWord nbits w) :: s.host.pending)

end Sys2Proof.Machine
end

