-- ==== Sys2Proof/Machine/SensorMap.lean ====
section
/-!
DEFINITION. Machine/SensorMap.lean: the sensor's register map (R64): operand values of READ16 and WRITE16. The block
checks no operand against it (R65) and holds nothing of the sensor (R71).
-/

namespace Sys2Proof.Machine

/-- The address of a named sensor register (R64). -/
def sensorAddress : SensorReg → Byte
  | .rawir1 => 0x04#8
  | .rawir2 => 0x05#8
  | .ambient => 0x06#8
  | .object1 => 0x07#8
  | .object2 => 0x08#8
  | .tomax => 0x20#8
  | .tomin => 0x21#8
  | .pwmctrl => 0x22#8
  | .tarange => 0x23#8
  | .emissivity => 0x24#8
  | .config => 0x25#8
  | .address => 0x2E#8
  | .id1 => 0x3C#8
  | .id2 => 0x3D#8
  | .id3 => 0x3E#8
  | .id4 => 0x3F#8

/-- The class of a named sensor register (R64). -/
def sensorClass : SensorReg → SensorClass
  | .rawir1 => .ram
  | .rawir2 => .ram
  | .ambient => .ram
  | .object1 => .ram
  | .object2 => .ram
  | .tomax => .eeprom
  | .tomin => .eeprom
  | .pwmctrl => .eeprom
  | .tarange => .eeprom
  | .emissivity => .eeprom
  | .config => .eeprom
  | .address => .eeprom
  | .id1 => .eeprom
  | .id2 => .eeprom
  | .id3 => .eeprom
  | .id4 => .eeprom

/-- An EEPROM register for the hazards of R203 and R204: any address in 0x20 to 0x3F (R64, C2). -/
def isEeprom (reg : Byte) : Bool := decide (0x20#8 ≤ reg ∧ reg ≤ 0x3F#8)

/-- The name of a sensor register as the source writes it (R64, R87). -/
def sensorName : SensorReg → String
  | .rawir1 => "RAWIR1"
  | .rawir2 => "RAWIR2"
  | .ambient => "AMBIENT"
  | .object1 => "OBJECT1"
  | .object2 => "OBJECT2"
  | .tomax => "TOMAX"
  | .tomin => "TOMIN"
  | .pwmctrl => "PWMCTRL"
  | .tarange => "TARANGE"
  | .emissivity => "EMISSIVITY"
  | .config => "CONFIG"
  | .address => "ADDRESS"
  | .id1 => "ID1"
  | .id2 => "ID2"
  | .id3 => "ID3"
  | .id4 => "ID4"

/-- Every named sensor register (R64). -/
def sensorRegs : List SensorReg :=
  [.rawir1, .rawir2, .ambient, .object1, .object2, .tomax, .tomin, .pwmctrl, .tarange, .emissivity, .config,
    .address, .id1, .id2, .id3, .id4]

/-- The sensor register of a name (R87). -/
def sensorNamed (name : List Char) : Option SensorReg :=
  sensorRegs.find? fun r => decide ((sensorName r).toList = name)

end Sys2Proof.Machine
end

