-- ==== Sys2Proof/Machine/Assembler.lean ====
section
/-!
DEFINITION. Machine/Assembler.lean: the assembler notation for command words (R7, R87), its two pseudo-instructions
(R88) and the disassembly of a word (R89). Where R87 is silent on how a line is written, log entry 18 says what is read.
-/

namespace Sys2Proof.Machine

/-- Why a source line is not assembled. -/
inductive AsmError where
  /-- The mnemonic is none of those of R87 and R88. -/
  | unknownMnemonic
  /-- The number or the kinds of the operands are not those of the mnemonic. -/
  | badOperands
  /-- An operand does not fit its field (R87). -/
  | operandDoesNotFit
  deriving DecidableEq, Repr

/-- `PEC b1, ..., bn` (R88). -/
def expandPec (bytes : List Byte) : List Instr := .pecclr :: bytes.map .pecbyte

/-- `EWRITE reg, val` (R88). -/
def expandEwrite (reg : Byte) (val : Half) : List Instr :=
  [.write16 reg 0#16, .delay 10#16, .write16 reg val, .delay 10#16]

/-- The commands an assembler command stands for, its operands at their field widths (R87, R88). -/
def expand : AsmCmd → List Instr
  | .init a u => [.init (BitVec.ofNat 7 a) (BitVec.ofNat 1 u)]
  | .read16 r => [.read16 (BitVec.ofNat 8 r)]
  | .write16 r v => [.write16 (BitVec.ofNat 8 r) (BitVec.ofNat 16 v)]
  | .pecclr => [.pecclr]
  | .pecbyte b => [.pecbyte (BitVec.ofNat 8 b)]
  | .delay ms => [.delay (BitVec.ofNat 16 ms)]
  | .pec bs => expandPec (bs.map (BitVec.ofNat 8))
  | .ewrite r v => expandEwrite (BitVec.ofNat 8 r) (BitVec.ofNat 16 v)

/-- The words of an assembler command, or an error where an operand does not fit its field (R87). -/
def assemble (c : AsmCmd) : Except AsmError (List Word) :=
  if c.wellFormed then .ok ((expand c).map encode) else .error .operandDoesNotFit

/-- The value of a digit character in a base up to 16 (R87). -/
def digitValue (base : Nat) (c : Char) : Option Nat :=
  let n :=
    if 48 ≤ c.toNat ∧ c.toNat ≤ 57 then c.toNat - 48
    else if 65 ≤ c.toNat ∧ c.toNat ≤ 70 then c.toNat - 55
    else if 97 ≤ c.toNat ∧ c.toNat ≤ 102 then c.toNat - 87
    else base
  if n < base then some n else none

/-- The number written by digits in a base, most significant first, after the value `acc`. -/
def digitsValue (base acc : Nat) : List Char → Option Nat
  | [] => some acc
  | c :: cs =>
    match digitValue base c with
    | some d => digitsValue base (base * acc + d) cs
    | none => none

/-- A decimal number or a `0x` hexadecimal number (R87). -/
def parseNumber : List Char → Option Nat
  | [] => none
  | '0' :: 'x' :: [] => none
  | '0' :: 'x' :: c :: cs => digitsValue 16 0 (c :: cs)
  | c :: cs => digitsValue 10 0 (c :: cs)

/-- One operand: a number, or a register name prefixed with `%` (R87). -/
def parseOperand : List Char → Option AsmOperand
  | '%' :: name => (sensorNamed name).map .register
  | cs => (parseNumber cs).map .number

/-- A space or a tab. -/
def isBlank (c : Char) : Bool := c = ' ' || c = '\t'

/-- The text without the blanks at its two ends. -/
def trimBlanks (cs : List Char) : List Char := ((cs.dropWhile isBlank).reverse.dropWhile isBlank).reverse

/-- The text between the commas. -/
def splitCommas : List Char → List (List Char)
  | [] => [[]]
  | c :: cs =>
    if c = ',' then [] :: splitCommas cs
    else
      match splitCommas cs with
      | [] => [[c]]
      | part :: parts => (c :: part) :: parts

/-- Every operand of a list, or `none` if one of them is none. -/
def allOperands : List (Option AsmOperand) → Option (List AsmOperand)
  | [] => some []
  | none :: _ => none
  | some o :: os => (allOperands os).map (o :: ·)

/-- The operands of a line, separated by commas; a blank text holds none. -/
def parseOperands (cs : List Char) : Option (List AsmOperand) :=
  if trimBlanks cs = [] then some []
  else allOperands ((splitCommas cs).map fun part => parseOperand (trimBlanks part))

/-- The number of an operand that stands for a register address or a byte: a name stands for its address (R87). -/
def byteOperand : AsmOperand → Nat
  | .number n => n
  | .register r => (sensorAddress r).toNat

/-- The assembler command of a mnemonic with its operands (R87, R88). A register name may stand where a register address
or a PEC byte does. -/
def commandOf (mnemonic : List Char) (ops : List AsmOperand) : Except AsmError AsmCmd :=
  if mnemonic = "INIT".toList then
    match ops with
    | [.number a, .number u] => .ok (.init a u)
    | _ => .error .badOperands
  else if mnemonic = "READ16".toList then
    match ops with
    | [r] => .ok (.read16 (byteOperand r))
    | _ => .error .badOperands
  else if mnemonic = "WRITE16".toList then
    match ops with
    | [r, .number v] => .ok (.write16 (byteOperand r) v)
    | _ => .error .badOperands
  else if mnemonic = "PECCLR".toList then
    match ops with
    | [] => .ok .pecclr
    | _ => .error .badOperands
  else if mnemonic = "PECBYTE".toList then
    match ops with
    | [b] => .ok (.pecbyte (byteOperand b))
    | _ => .error .badOperands
  else if mnemonic = "DELAY".toList then
    match ops with
    | [.number ms] => .ok (.delay ms)
    | _ => .error .badOperands
  else if mnemonic = "PEC".toList then .ok (.pec (ops.map byteOperand))
  else if mnemonic = "EWRITE".toList then
    match ops with
    | [r, .number v] => .ok (.ewrite (byteOperand r) v)
    | _ => .error .badOperands
  else .error .unknownMnemonic

/-- The words of one source line (R87): its comment, from the first `;` on, is dropped, and a blank line holds no
command. -/
def assembleChars (line : List Char) : Except AsmError (List Word) :=
  let body := trimBlanks (line.takeWhile fun c => !decide (c = ';'))
  if body = [] then .ok []
  else
    match parseOperands (body.dropWhile fun c => !isBlank c) with
    | none => .error .badOperands
    | some ops =>
      match commandOf (body.takeWhile fun c => !isBlank c) ops with
      | .ok c => assemble c
      | .error e => .error e

/-- The words of one source line given as a string. -/
def assembleLine (line : String) : Except AsmError (List Word) := assembleChars line.toList

/-- The words of a source text, one command a line, in order (R87); the first error ends it. -/
def assembleText : List String → Except AsmError (List Word)
  | [] => .ok []
  | line :: lines =>
    match assembleLine line, assembleText lines with
    | .ok ws, .ok rest => .ok (ws ++ rest)
    | .error e, _ => .error e
    | .ok _, .error e => .error e

/-- A hexadecimal digit, in capitals (R89). -/
def hexDigit (n : Nat) : Char := if n < 10 then Char.ofNat (48 + n) else Char.ofNat (55 + n)

/-- The hexadecimal digits of `n`, at least one and at most `fuel + 1` of them, before the text `tail`; with no leading
zeros (log entry 17). -/
def hexDigits : Nat → Nat → List Char → List Char
  | 0, n, tail => hexDigit (n % 16) :: tail
  | fuel + 1, n, tail =>
    if n / 16 = 0 then hexDigit (n % 16) :: tail else hexDigits fuel (n / 16) (hexDigit (n % 16) :: tail)

/-- Exactly `k` hexadecimal digits of `n`, before the text `tail`. -/
def hexPadded : Nat → Nat → List Char → List Char
  | 0, _, tail => tail
  | k + 1, n, tail => hexPadded k (n / 16) (hexDigit (n % 16) :: tail)

/-- An operand in hexadecimal (R89). -/
def hexOperand (n : Nat) : List Char := '0' :: 'x' :: hexDigits 3 n []

/-- The text of a command: the syntax of R87 with every operand in hexadecimal (R89). -/
def instrChars : Instr → List Char
  | .init a u => "INIT ".toList ++ hexOperand a.toNat ++ ", ".toList ++ hexOperand u.toNat
  | .read16 r => "READ16 ".toList ++ hexOperand r.toNat
  | .write16 r v => "WRITE16 ".toList ++ hexOperand r.toNat ++ ", ".toList ++ hexOperand v.toNat
  | .pecclr => "PECCLR".toList
  | .pecbyte b => "PECBYTE ".toList ++ hexOperand b.toNat
  | .delay ms => "DELAY ".toList ++ hexOperand ms.toNat

/-- A word's disassembly (R89): its command's text, or `.word 0xXXXXXXXX` for an illegal word. -/
def disassembleChars (w : Word) : List Char :=
  match decode w with
  | .ok i => instrChars i
  | .error _ => ".word 0x".toList ++ hexPadded 8 w.toNat []

/-- A word's disassembly as a string (R89). -/
def disassemble (w : Word) : String := String.ofList (disassembleChars w)

end Sys2Proof.Machine
end

