-- ==== Sys2Proof/Machine/Hazards.lean ====
section
/-!
DEFINITION. Machine/Hazards.lean: the hazards a host program must respect, judged on the trace (R203, R204). The block
enforces neither (R179, R203); a claim about what the sensor holds must take both as premises (R203).
-/

namespace Sys2Proof.Machine

/-- The bus address of a `Send1RS`, `SendNStop` or `Recv` (R59). -/
def busAddress : Call → Option Addr7
  | .send1RS a _ => some a
  | .sendNStop a _ _ => some a
  | .recv a _ => some a
  | .delay _ => none
  | .initBus => none

/-- The milliseconds a call waits: only a recorded `Delay` counts as a wait (R204). -/
def waitMs : Call → Nat
  | .delay ms => ms.toNat
  | .send1RS _ _ => 0
  | .sendNStop _ _ _ => 0
  | .recv _ _ => 0
  | .initBus => 0

/-- The bus address of an EEPROM write: a `SendNStop` whose first byte is in 0x20 to 0x3F (R204). -/
def eepromSendTo : Call → Option Addr7
  | .sendNStop a (reg :: _) _ => if isEeprom reg then some a else none
  | .sendNStop _ [] _ => none
  | .send1RS _ _ => none
  | .recv _ _ => none
  | .delay _ => none
  | .initBus => none

/-- The next call to bus address `a`, if there is one, comes after recorded waits of 10 ms or more, `waited` of them
already counted (R204). -/
def waitedBeforeNext (a : Addr7) (waited : Nat) : List Event → Bool
  | [] => true
  | e :: es =>
    if busAddress e.call = some a then decide (10 ≤ waited)
    else waitedBeforeNext a (waited + waitMs e.call) es

/-- R204 holds of the trace: every EEPROM write is followed by its 10 ms before the next call to the same bus address,
whatever it was answered. -/
def eepromWaitOk : List Event → Bool
  | [] => true
  | e :: es =>
    (match eepromSendTo e.call with
      | some a => waitedBeforeNext a 0 es
      | none => true) && eepromWaitOk es

/-- A WRITE16 of a value other than 0x0000 to an EEPROM register: its bus address and register (R203). -/
def eepromValueWrite : Call → Option (Addr7 × Byte)
  | .sendNStop a (reg :: lo :: hi :: _) _ =>
    if isEeprom reg ∧ ¬(lo = 0#8 ∧ hi = 0#8) then some (a, reg) else none
  | .sendNStop _ [_, _] _ => none
  | .sendNStop _ [_] _ => none
  | .sendNStop _ [] _ => none
  | .send1RS _ _ => none
  | .recv _ _ => none
  | .delay _ => none
  | .initBus => none

/-- The register a `SendNStop` writes: its first byte (R130). -/
def writtenReg : Call → Option Byte
  | .sendNStop _ (reg :: _) _ => some reg
  | .sendNStop _ [] _ => none
  | .send1RS _ _ => none
  | .recv _ _ => none
  | .delay _ => none
  | .initBus => none

/-- The event is the erase R203 asks for: a WRITE16 of 0x0000 to register `reg` at bus address `a`, answered OK. -/
def isErase (a : Addr7) (reg : Byte) (e : Event) : Bool :=
  match e.call with
  | .sendNStop a' [r, lo, hi, _] _ => decide (a' = a ∧ r = reg ∧ lo = 0#8 ∧ hi = 0#8 ∧ e.answer = .ok)
  | _ => false

/-- In the events before a write, NEWEST FIRST: the last WRITE16 to `reg` is the erase, 10 ms or more of recorded waits
before the write, `waited` of them already counted (R203 items 1 to 3; log entry 15). -/
def erasedBefore (a : Addr7) (reg : Byte) (waited : Nat) : List Event → Bool
  | [] => false
  | e :: past =>
    if writtenReg e.call = some reg then isErase a reg e && decide (10 ≤ waited)
    else erasedBefore a reg (waited + waitMs e.call) past

/-- R203 holds of the events `es`, which follow the events `past` (newest first). -/
def eraseOkFrom (past : List Event) : List Event → Bool
  | [] => true
  | e :: es =>
    (match eepromValueWrite e.call with
      | some (a, reg) => erasedBefore a reg 0 past
      | none => true) && eraseOkFrom (e :: past) es

/-- R203 holds of the trace: every EEPROM write of a value is preceded by its erase. -/
def eraseBeforeWriteOk (trace : List Event) : Bool := eraseOkFrom [] trace

/-- The trace is free of both EEPROM hazards: the premise R203 asks of a claim about what the sensor holds. -/
def hazardFree (trace : List Event) : Bool := eraseBeforeWriteOk trace && eepromWaitOk trace

end Sys2Proof.Machine
end

