-- ==== Sys2Proof/Safety.lean ====
section
/-!
DEFINITION. Safety.lean: what counts as a good state of the machine, in the terms the statements use. The invariant
`State.Inv` gathers what the spec says of the whole machine between commands: the STATUS combinations (R26), RDATA and
RPEC written together (R55), BUSHELD false (R31), the frame in TXFRAME intact (R132, R133), the trace made of whole
transactions (R59, R63, R66), what host reads can return (R52, R55 to R57) and where a command program stands (R161).
-/

namespace Sys2Proof.Machine

/-- The STATUS combinations that occur (R26). -/
def statusLegal (st : BitVec 5) : Bool :=
  if statusValid st then
    if statusOk st then decide (statusCause st = 0#3)
    else decide (1#3 ≤ statusCause st ∧ statusCause st ≤ 5#3)
  else decide (statusCause st = 0#3 ∧ statusOk st = false)

/-- What R26, R31, R55 and R133 say of the block between commands. -/
def Block.Inv (b : Block) : Prop :=
  statusLegal b.status = true ∧
  b.rdata.isSome = b.rpec.isSome ∧
  b.busheld = false ∧
  ∀ f, b.txframe = some f → ∃ addr, receiverCheck addr (frameBytes f) = 0x00#8

/-- The answer is OK or FAIL. -/
def okOrFail (a : Answer) : Bool := decide (a = .ok ∨ a = .fail)

/-- The answer of a `Recv` of three bytes: FAIL, or all three (R63). -/
def failOrThreeBytes : Answer → Bool
  | .fail => true
  | .bytes bs => decide (bs.length = 3)
  | .ok => false
  | .noAnswer => false

/-- The trace is a sequence of whole transactions (R59, R63, R66): a pointer phase answered OK is followed at once by
the receive of exactly three bytes from the same address, and no receive stands anywhere else (R120); every send is a
frame of exactly four bytes that passes the receiver's check (R130, R133); every answer is one its call can have. -/
def traceFramed : List Event → Bool
  | [] => true
  | { call := .send1RS a _, answer := .ok } :: { call := .recv a' n, answer := ans } :: es =>
    decide (a' = a ∧ n = 3) && failOrThreeBytes ans && traceFramed es
  | { call := .send1RS _ _, answer := ans } :: es => decide (ans = .fail) && traceFramed es
  | { call := .sendNStop a bytes n, answer := ans } :: es =>
    decide (n = 4 ∧ bytes.length = 4 ∧ receiverCheck a bytes = 0x00#8) && okOrFail ans && traceFramed es
  | { call := .recv _ _, answer := _ } :: _ => false
  | { call := .delay _, answer := ans } :: es => decide (ans = .noAnswer) && traceFramed es
  | { call := .initBus, answer := ans } :: es => okOrFail ans && traceFramed es

/-- The value read has the register's reserved bits 0: STATUS[31:5] (R26), RESULT[31:24] (R55), PECACC[31:8] (R56),
CONFIG[31:9] and CONFIG[7] (R57). -/
def reservedBitsZero (off : Nat) (v : Word) : Bool :=
  if off = 0x04 then decide (v &&& 0xFFFFFFE0#32 = 0#32)
  else if off = 0x08 then decide (v &&& 0xFF000000#32 = 0#32)
  else if off = 0x0C then decide (v &&& 0xFFFFFF00#32 = 0#32)
  else if off = 0x10 then decide (v &&& 0xFFFFFE80#32 = 0#32)
  else decide (off = 0x14)

/-- A host read is one of the admitted ones (R52): a value has its reserved bits 0, and only RESULT and TXFRAME can be
refused (R32). -/
def readAdmitted (r : HostRead) : Bool :=
  match r.answer with
  | .value v => reservedBitsZero r.off v
  | .refused => decide (r.off = 0x08 ∨ r.off = 0x14)

/-- Where a command program can stand (R160, R161): while it runs, the index is one of its words; it ended in success
at its last word or in failure at the index. A program of no words is never running a word. -/
def programPlaced (h : HostSide) : Bool :=
  match h.programEnd with
  | none => decide (h.program = [] ∨ h.index < h.program.length)
  | some .success => decide (h.program = [] ∨ h.index + 1 = h.program.length)
  | some (.failure k) => decide (k = h.index ∧ h.index < h.program.length)

/-- The invariant of the machine between steps. -/
def State.Inv (s : State) : Prop :=
  s.block.Inv ∧ traceFramed s.transport.trace = true ∧ s.host.hostReads.all readAdmitted = true ∧
    programPlaced s.host = true

end Sys2Proof.Machine
end

