-- ==== Sys2Proof/Certificates/Slice0/Obligations.lean ====
section
/-!
DEFINITION. Certificates/Slice0/Obligations.lean: the statements for the provers, from the numbered rules of the spec.
-/

open Sys2Proof Sys2Proof.Machine

/-! ## Encoding (R80 to R86) -/

/-- Words written out bit by bit from the encodings of R82 decode to the command they stand for, and the illegal words of
R84 to none (95_test_vectors.md L2.8). The names of the reasons are the model's (log entry 23). -/
def Obligations.WordsDecodeAsWritten : Prop :=
  (decode 0b00010000010110100000000000000001#32 = .ok (.init 0x5A#7 1#1) ∧
    decode 0b00100000111111110000000000000000#32 = .ok (.read16 0xFF#8) ∧
    decode 0b00110000001001000001001000110100#32 = .ok (.write16 0x24#8 0x1234#16) ∧
    decode 0b01000000000000000000000000000000#32 = .ok .pecclr ∧
    decode 0b01010000101101000000000000000000#32 = .ok (.pecbyte 0xB4#8) ∧
    decode 0b01100000000000000000000000001010#32 = .ok (.delay 10#16)) ∧
  decode 0x00000000#32 = .error .reservedOp ∧
  decode 0x70000000#32 = .error .reservedOp ∧
  decode 0xF0000000#32 = .error .reservedOp ∧
  decode 0x10800000#32 = .error .initBit23 ∧
  decode 0x105A0002#32 = .error .initV ∧
  decode 0x20070001#32 = .error .read16V ∧
  decode 0x3F241234#32 = .error .zNotZero ∧
  decode 0x40010000#32 = .error .pecclrOperand ∧
  decode 0x50B40001#32 = .error .pecbyteV ∧
  decode 0x60010000#32 = .error .delayA

/-- "For every legal command c, `decode(encode(c)) = c`", with every operand at every value; the spec marks the sentence
as its own inference from R82. -/
def Obligations.EncodeThenDecode : Prop := ∀ i : Instr, decode (encode i) = .ok i

/-- "For every word w with `decode(w) = c`, `encode(c) = w`": each legal word has one spelling; the spec marks the
sentence as its own inference from R82. -/
def Obligations.DecodeThenEncode : Prop := ∀ (w : Word) (i : Instr), decode w = .ok i → encode i = w

/-- R86 with R80 to R82: the word of a command is OP at bit 28, A at bit 16 and V at bit 0, every other bit 0. -/
def Obligations.EncodePlacesTheFields : Prop :=
  (∀ (a : Addr7) (u : BitVec 1),
    (encode (.init a u)).toNat = 0x1 * 2 ^ 28 + a.toNat * 2 ^ 16 + u.toNat) ∧
  (∀ r : Byte, (encode (.read16 r)).toNat = 0x2 * 2 ^ 28 + r.toNat * 2 ^ 16) ∧
  (∀ (r : Byte) (v : Half),
    (encode (.write16 r v)).toNat = 0x3 * 2 ^ 28 + r.toNat * 2 ^ 16 + v.toNat) ∧
  (encode .pecclr).toNat = 0x4 * 2 ^ 28 ∧
  (∀ b : Byte, (encode (.pecbyte b)).toNat = 0x5 * 2 ^ 28 + b.toNat * 2 ^ 16) ∧
  (∀ ms : Half, (encode (.delay ms)).toNat = 0x6 * 2 ^ 28 + ms.toNat)

/-- R83: every operand is the unsigned field of the word at its place, not extended, scaled or shifted. -/
def Obligations.DecodeReadsTheFields : Prop :=
  ∀ w : Word,
    (∀ a u, decode w = .ok (.init a u) →
      a.toNat = w.toNat / 2 ^ 16 % 2 ^ 7 ∧ u.toNat = w.toNat % 2) ∧
    (∀ r, decode w = .ok (.read16 r) → r.toNat = w.toNat / 2 ^ 16 % 2 ^ 8) ∧
    (∀ r v, decode w = .ok (.write16 r v) →
      r.toNat = w.toNat / 2 ^ 16 % 2 ^ 8 ∧ v.toNat = w.toNat % 2 ^ 16) ∧
    (∀ b, decode w = .ok (.pecbyte b) → b.toNat = w.toNat / 2 ^ 16 % 2 ^ 8) ∧
    (∀ ms, decode w = .ok (.delay ms) → ms.toNat = w.toNat % 2 ^ 16)

/-- R82: "A word `w` is the listed command exactly when `(w & mask) == match`"; R84, R85: every other word is illegal. -/
def Obligations.LegalWordsMatchTheirRows : Prop :=
  ∀ w : Word,
    ((∃ a u, decode w = .ok (.init a u)) ↔ w &&& 0xFF80FFFE#32 = 0x10000000#32) ∧
    ((∃ r, decode w = .ok (.read16 r)) ↔ w &&& 0xFF00FFFF#32 = 0x20000000#32) ∧
    ((∃ r v, decode w = .ok (.write16 r v)) ↔ w &&& 0xFF000000#32 = 0x30000000#32) ∧
    (decode w = .ok .pecclr ↔ w &&& 0xFFFFFFFF#32 = 0x40000000#32) ∧
    ((∃ b, decode w = .ok (.pecbyte b)) ↔ w &&& 0xFF00FFFF#32 = 0x50000000#32) ∧
    ((∃ ms, decode w = .ok (.delay ms)) ↔ w &&& 0xFFFF0000#32 = 0x60000000#32) ∧
    (legalWord w = true ↔
      w &&& 0xFF80FFFE#32 = 0x10000000#32 ∨ w &&& 0xFF00FFFF#32 = 0x20000000#32 ∨
      w &&& 0xFF000000#32 = 0x30000000#32 ∨ w &&& 0xFFFFFFFF#32 = 0x40000000#32 ∨
      w &&& 0xFF00FFFF#32 = 0x50000000#32 ∨ w &&& 0xFFFF0000#32 = 0x60000000#32)

/-- R84: of the 2^32 words, exactly 16,843,521 are legal. -/
def Obligations.LegalWordCount : Prop := Nat.card { w : Word // legalWord w = true } = 16843521

/-! ## The checksum engine (R100 to R106) -/

/-- "These two forms are equal to rule R100 for every `acc` and `b`": the XOR-first form and the table form equal the bit
loop; the spec marks it as its own inference from R100. -/
def Obligations.CrcFormsAgree : Prop :=
  ∀ acc b : Byte, crc8Step acc b = shift8 (acc ^^^ b) ∧ crc8Step acc b = crcTable (acc ^^^ b)

/-- "The table `T[x] = crc8_step(0x00, x)` for x = 0x00 to 0xFF": the entries the spec prints are the step from an
accumulator of 0; the spec marks the table as derived from R100. -/
def Obligations.CrcTableIsTheStepFromZero : Prop :=
  ∀ x : Byte, crcTable x = crc8Step 0x00#8 x

/-- "`pec(s1 XOR s2) = pec(s1) ^ pec(s2)`" for sequences of equal length; the spec marks it as its own inference from R100
and R102. -/
def Obligations.PecIsLinear : Prop :=
  ∀ s1 s2 : List Byte, s1.length = s2.length →
    pec (List.zipWith (fun x y => x ^^^ y) s1 s2) = pec s1 ^^^ pec s2

/-- Leading zeros, "`pec(s ++ [pec(s)]) = 0x00` for every s", and composition: the laws the spec marks as its own
inferences from R100 and R102. -/
def Obligations.PecAppendsAndComposes : Prop :=
  (∀ s : List Byte, pec (0x00#8 :: s) = pec s) ∧
  (∀ s : List Byte, pec (s ++ [pec s]) = 0x00#8) ∧
  (∀ s1 s2 : List Byte, pec (s1 ++ s2) = pecFrom (pec s1) s2)

open Polynomial in
/-- R1 with the loop of R100 and R102: `pec` is the CRC of the polynomial x⁸+x²+x¹+1 with initial value 0 and no final
XOR: read as polynomials over the field of two elements, the message times x⁸ leaves the remainder `pec`. That the input
is taken most significant bit first, with no reflection, is the spec's own inference from R100: R103 and R8 mark it as
derived. -/
def Obligations.PecIsTheRemainder : Prop :=
  ∀ bytes : List Byte,
    let poly : Byte → (ZMod 2)[X] := fun b => ∑ i ∈ Finset.range 8, if b.getLsbD i then X ^ i else 0
    let message : (ZMod 2)[X] := bytes.foldl (fun m b => m * X ^ 8 + poly b) 0
    message * X ^ 8 %ₘ (X ^ 8 + X ^ 2 + X + 1) = poly (pec bytes)

/-- Known values of `pec` and of the step (95_test_vectors.md L2.1, L2.2). -/
def Obligations.PecKnownValues : Prop :=
  pec [] = 0x00#8 ∧ pec [0x00#8] = 0x00#8 ∧ pec [0x01#8] = 0x07#8 ∧ pec [0x80#8] = 0x89#8 ∧
  pec [0x31#8, 0x32#8, 0x33#8, 0x34#8, 0x35#8, 0x36#8, 0x37#8, 0x38#8, 0x39#8] = 0xF4#8 ∧
  pec [0xB4#8, 0x24#8, 0x34#8, 0x12#8] = 0xFB#8 ∧ pec [0xFE#8, 0x25#8, 0x00#8, 0x00#8] = 0x44#8 ∧
  crc8Step 0xE7#8 0x34#8 = 0x37#8 ∧ crc8Step 0x5F#8 0x00#8 = 0x9A#8

/-! ## The framer (R121, R131 to R133) -/

/-- READ16's assembly "is a bijection from byte pairs to values", the inverse of WRITE16's split (R131), and equal to
`b0 + 256 * b1`, so it cannot overflow; the spec marks these as its own inferences from R120 and R131. -/
def Obligations.AssemblyInvertsTheSplit : Prop :=
  (∀ v : Half, assemble16 (lowByte v) (highByte v) = v) ∧
  (∀ b0 b1 : Byte, lowByte (assemble16 b0 b1) = b0 ∧ highByte (assemble16 b0 b1) = b1) ∧
  (∀ b0 b1 : Byte, (assemble16 b0 b1).toNat = b0.toNat + 256 * b1.toNat)

/-- R131, R132: the frame of a WRITE16 is the register address, the value's low byte and high byte, and the PEC of the
four bytes [DEVADDR << 1, REG, low, high], the address byte itself not in it. -/
def Obligations.WriteFrameHoldsPayloadAndPec : Prop :=
  ∀ (addr : Addr7) (reg : Byte) (val : Half),
    let lo : Byte := BitVec.ofNat 8 (val.toNat % 256)
    let hi : Byte := BitVec.ofNat 8 (val.toNat / 256)
    frameBytes (writeFrame addr reg val) = [reg, lo, hi, pec [BitVec.ofNat 8 (2 * addr.toNat), reg, lo, hi]]

/-- A receiver that sees the address byte and the frame computes 0; the spec marks it as its own inference from R132. -/
def Obligations.WriteFrameChecksToZero : Prop :=
  ∀ (addr : Addr7) (reg : Byte) (val : Half),
    pec (BitVec.ofNat 8 (2 * addr.toNat) :: frameBytes (writeFrame addr reg val)) = 0x00#8

/-! ## INIT (R150) -/

/-- R150: INIT stores the address and the AUTO bit and succeeds: at once with AUTO = 0, issuing no call; with AUTO = 1
when `InitBus` answers OK. From every state and with every operand, whatever the answer, INIT answers a next state with
the address and the AUTO bit stored and VALID set. What `answers` and `draws` become is the model's own (log entries 3
and 4), and that a call is always answered is the spec's assumption (log entry 5). -/
def Obligations.InitCompletes : Prop :=
  ∀ (s : State) (addr7 : Addr7),
    (∀ auto : BitVec 1, ∃ t, exec (.init addr7 auto) s = .next t ∧
      t.block.devaddr = addr7 ∧ t.block.autoinit = auto ∧ statusValid t.block.status = true) ∧
    exec (.init addr7 0#1) s =
      .next { s with block.devaddr := addr7, block.autoinit := 0#1, block.status := 0x11#5 } ∧
    ((s.drawFor .initBus).ok = true →
      exec (.init addr7 1#1) s =
        .next
          { s with
            block.devaddr := addr7
            block.autoinit := 1#1
            block.status := 0x11#5
            transport :=
              { trace := s.transport.trace ++ [{ call := .initBus, answer := .ok }]
                answers := s.transport.answers.tail
                draws := s.transport.draws + 1 } })

/-- R150, R172: with AUTO = 1 and `InitBus` answered FAIL, STATUS is 0x18 and DEVADDR and AUTOINIT hold the new
values. What `answers` and `draws` become is the model's own (log entries 3 and 4). -/
def Obligations.InitBusFailure : Prop :=
  ∀ (s : State) (addr7 : Addr7), (s.drawFor .initBus).ok = false →
    exec (.init addr7 1#1) s =
      .next
        { s with
          block.devaddr := addr7
          block.autoinit := 1#1
          block.status := 0x18#5
          transport :=
            { trace := s.transport.trace ++ [{ call := .initBus, answer := .fail }]
              answers := s.transport.answers.tail
              draws := s.transport.draws + 1 } }

/-- R150: "State not touched: ACC, RDATA, RPEC and TXFRAME", whatever the answer; the host's side and BUSHELD neither. -/
def Obligations.InitFrame : Prop :=
  ∀ (s t : State) (addr7 : Addr7) (auto : BitVec 1), exec (.init addr7 auto) s = .next t →
    t.block.acc = s.block.acc ∧ t.block.rdata = s.block.rdata ∧ t.block.rpec = s.block.rpec ∧
    t.block.txframe = s.block.txframe ∧ t.block.busheld = s.block.busheld ∧ t.host = s.host ∧
    (auto = 0#1 → t.transport = s.transport)

/-! ## READ16 (R120) -/

/-- R120, R186: both phases answered OK, READ16 writes RDATA = b0 | (b1 << 8) and RPEC = b2, whatever b2 is, and
succeeds. The second answer is the one drawn after the pointer phase. What `answers` and `draws` become (log entries 3
and 4) and that BUSHELD is a stored field (log entry 12) are the model's own. -/
def Obligations.Read16Completes : Prop :=
  ∀ (s : State) (reg : Byte),
    let addr := s.block.devaddr
    let d := (s.send1RS addr reg).drawFor (.recv addr 3)
    (s.drawFor (.send1RS addr reg)).ok = true → d.ok = true →
      exec (.read16 reg) s =
        .next
          { s with
            block.rdata := some (BitVec.ofNat 16 (d.b0.toNat + 256 * d.b1.toNat))
            block.rpec := some d.b2
            block.status := 0x11#5
            block.busheld := false
            transport :=
              { trace := s.transport.trace ++
                  [{ call := .send1RS addr reg, answer := .ok },
                   { call := .recv addr 3, answer := .bytes [d.b0, d.b1, d.b2] }]
                answers := s.transport.answers.tail.tail
                draws := s.transport.draws + 2 } }

/-- R120, R172: the pointer phase answered FAIL, STATUS is 0x12, no `Recv` is issued, RDATA and RPEC are kept.
What `answers` and `draws` become (log entries 3 and 4) and that BUSHELD is a stored field (log entry 12) are the
model's own. -/
def Obligations.Read16PointerFailure : Prop :=
  ∀ (s : State) (reg : Byte),
    (s.drawFor (.send1RS s.block.devaddr reg)).ok = false →
      exec (.read16 reg) s =
        .next
          { s with
            block.status := 0x12#5
            block.busheld := false
            transport :=
              { trace := s.transport.trace ++ [{ call := .send1RS s.block.devaddr reg, answer := .fail }]
                answers := s.transport.answers.tail
                draws := s.transport.draws + 1 } }

/-- R120, R172: the receive answered FAIL, STATUS is 0x14 and RDATA and RPEC are kept. What `answers` and `draws` become
(log entries 3 and 4) and that BUSHELD is a stored field (log entry 12) are the model's own. -/
def Obligations.Read16ReceiveFailure : Prop :=
  ∀ (s : State) (reg : Byte),
    let addr := s.block.devaddr
    (s.drawFor (.send1RS addr reg)).ok = true →
    ((s.send1RS addr reg).drawFor (.recv addr 3)).ok = false →
      exec (.read16 reg) s =
        .next
          { s with
            block.status := 0x14#5
            block.busheld := false
            transport :=
              { trace := s.transport.trace ++
                  [{ call := .send1RS addr reg, answer := .ok }, { call := .recv addr 3, answer := .fail }]
                answers := s.transport.answers.tail.tail
                draws := s.transport.draws + 2 } }

/-- R120: "State not touched: ACC, DEVADDR, AUTOINIT and TXFRAME, in every case"; the host's side neither; and BUSHELD is
not true after READ16. BUSHELD is true from a `Send1RS` answered OK until the `Recv` that follows (R31): the pointer phase
sets it to true exactly when it is answered OK, and the receive ends it whatever it is answered. That BUSHELD is a stored
field is the model's (log entry 12). -/
def Obligations.Read16Frame : Prop :=
  (∀ (s t : State) (reg : Byte), exec (.read16 reg) s = .next t →
    t.block.acc = s.block.acc ∧ t.block.devaddr = s.block.devaddr ∧ t.block.autoinit = s.block.autoinit ∧
    t.block.txframe = s.block.txframe ∧ t.host = s.host ∧ t.block.busheld = false) ∧
  (∀ (s : State) (addr : Addr7) (reg : Byte),
    ((s.drawFor (.send1RS addr reg)).ok = true → (s.send1RS addr reg).block.busheld = true) ∧
    ((s.drawFor (.send1RS addr reg)).ok = false → (s.send1RS addr reg).block.busheld = false)) ∧
  ∀ (s : State) (addr : Addr7), (s.recv3 addr).block.busheld = false

/-! ## WRITE16 (R130) -/

/-- R130, R132: WRITE16 computes the PEC of [DEVADDR << 1, REG, low, high] on ACC, builds the frame
[REG, low, high, PEC] in TXFRAME, sends it as one transaction of 4 bytes and, answered OK, succeeds. What `answers` and `draws` become
is the model's own (log entries 3 and 4). -/
def Obligations.Write16Completes : Prop :=
  ∀ (s : State) (reg : Byte) (val : Half),
    let addr := s.block.devaddr
    let lo : Byte := BitVec.ofNat 8 (val.toNat % 256)
    let hi : Byte := BitVec.ofNat 8 (val.toNat / 256)
    let p := pec [BitVec.ofNat 8 (2 * addr.toNat), reg, lo, hi]
    (s.drawFor (.sendNStop addr [reg, lo, hi, p] 4)).ok = true →
      exec (.write16 reg val) s =
        .next
          { s with
            block.acc := p
            block.txframe := some { reg := reg, lo := lo, hi := hi, pec := p }
            block.status := 0x11#5
            transport :=
              { trace := s.transport.trace ++
                  [{ call := .sendNStop addr [reg, lo, hi, p] 4, answer := .ok }]
                answers := s.transport.answers.tail
                draws := s.transport.draws + 1 } }

/-- R130, R172: the send answered FAIL, STATUS is 0x16, and ACC and TXFRAME hold the frame that was offered. What
`answers` and `draws` become is the model's own (log entries 3 and 4). -/
def Obligations.Write16SendFailure : Prop :=
  ∀ (s : State) (reg : Byte) (val : Half),
    let addr := s.block.devaddr
    let lo : Byte := BitVec.ofNat 8 (val.toNat % 256)
    let hi : Byte := BitVec.ofNat 8 (val.toNat / 256)
    let p := pec [BitVec.ofNat 8 (2 * addr.toNat), reg, lo, hi]
    (s.drawFor (.sendNStop addr [reg, lo, hi, p] 4)).ok = false →
      exec (.write16 reg val) s =
        .next
          { s with
            block.acc := p
            block.txframe := some { reg := reg, lo := lo, hi := hi, pec := p }
            block.status := 0x16#5
            transport :=
              { trace := s.transport.trace ++
                  [{ call := .sendNStop addr [reg, lo, hi, p] 4, answer := .fail }]
                answers := s.transport.answers.tail
                draws := s.transport.draws + 1 } }

/-- R130: "State not touched: RDATA, RPEC, DEVADDR and AUTOINIT, in every case"; the host's side and BUSHELD neither. -/
def Obligations.Write16Frame : Prop :=
  ∀ (s t : State) (reg : Byte) (val : Half), exec (.write16 reg val) s = .next t →
    t.block.rdata = s.block.rdata ∧ t.block.rpec = s.block.rpec ∧ t.block.devaddr = s.block.devaddr ∧
    t.block.autoinit = s.block.autoinit ∧ t.block.busheld = s.block.busheld ∧ t.host = s.host

/-! ## PECCLR, PECBYTE, DELAY (R110, R111, R151) -/

/-- R110: PECCLR writes ACC = 0x00 and STATUS = 0x11. -/
def Obligations.PecclrCompletes : Prop :=
  ∀ s : State, exec .pecclr s = .next { s with block.acc := 0x00#8, block.status := 0x11#5 }

/-- R111: PECBYTE writes ACC = crc8_step(ACC, BYTE) and STATUS = 0x11. The step is stated in its table form, the entry at
ACC XOR BYTE, which the spec marks as its own inference from R100. -/
def Obligations.PecbyteCompletes : Prop :=
  ∀ (s : State) (byte : Byte),
    exec (.pecbyte byte) s =
      .next { s with block.acc := crcTable (s.block.acc ^^^ byte), block.status := 0x11#5 }

/-- R151: DELAY records `Delay(MS)` in the trace and writes STATUS = 0x11; it draws no answer. -/
def Obligations.DelayCompletes : Prop :=
  ∀ (s : State) (ms : Half),
    exec (.delay ms) s =
      .next
        { s with
          block.status := 0x11#5
          transport.trace := s.transport.trace ++ [{ call := .delay ms, answer := .noAnswer }] }

/-- R110, R111, R151: PECCLR and PECBYTE touch nothing but ACC and STATUS, and issue no transport call; DELAY touches
nothing but STATUS and the trace. -/
def Obligations.ChecksumAndDelayFrame : Prop :=
  ∀ (s t : State) (i : Instr), exec i s = .next t →
    (i = .pecclr ∨ (∃ byte, i = .pecbyte byte) ∨ ∃ ms, i = .delay ms) →
      t.block.devaddr = s.block.devaddr ∧ t.block.autoinit = s.block.autoinit ∧ t.block.rdata = s.block.rdata ∧
      t.block.rpec = s.block.rpec ∧ t.block.txframe = s.block.txframe ∧ t.block.busheld = s.block.busheld ∧
      t.host = s.host ∧ t.transport.answers = s.transport.answers ∧ t.transport.draws = s.transport.draws ∧
      ((∀ ms, i ≠ .delay ms) → t.transport.trace = s.transport.trace) ∧
      ((∃ ms, i = .delay ms) → t.block.acc = s.block.acc)

/-- R110, R111 with R102 (the spec marks the sentence as its own inference): after PECCLR and PECBYTE b1 to bn,
ACC = pec([b1, ..., bn]), and nothing but ACC and STATUS has changed. -/
def Obligations.PecCommandsStreamPec : Prop :=
  ∀ (s : State) (bytes : List Byte),
    runInstrs (.pecclr :: bytes.map Instr.pecbyte) s =
      .next { s with block.acc := pec bytes, block.status := 0x11#5 }

/-! ## Rules about all commands -/

/-- R23, R24, R25, R28, R29, R30: each register has only the writers its rule names: DEVADDR and AUTOINIT change only in
an INIT, ACC only in PECCLR, PECBYTE and WRITE16, RDATA and RPEC only in a READ16 that succeeds, TXFRAME only in a
WRITE16. -/
def Obligations.OnlyTheNamedCommandsWriteEachRegister : Prop :=
  ∀ (i : Instr) (s t : State), exec i s = .next t →
    ((∀ a u, i ≠ .init a u) → t.block.devaddr = s.block.devaddr ∧ t.block.autoinit = s.block.autoinit) ∧
    (i ≠ .pecclr → (∀ b, i ≠ .pecbyte b) → (∀ r v, i ≠ .write16 r v) → t.block.acc = s.block.acc) ∧
    ((∀ r, i ≠ .read16 r) ∨ statusOk t.block.status = false →
      t.block.rdata = s.block.rdata ∧ t.block.rpec = s.block.rpec) ∧
    ((∀ r v, i ≠ .write16 r v) → t.block.txframe = s.block.txframe)

/-- R53, R59, R171 to R174: every word written to CMD runs to completion from every state and leaves one of the six
outcomes in STATUS, ILLEGAL exactly for an illegal word. That every transport call is answered is the spec's assumption
(U6, log entry 5). -/
def Obligations.EveryWordCompletesWithAnOutcome : Prop :=
  ∀ (w : Word) (s : State), ∃ t, memWrite 0x00 4 w s = .next t ∧
    (legalWord w = true →
      t.block.status = 0x11#5 ∨ t.block.status = 0x12#5 ∨ t.block.status = 0x14#5 ∨ t.block.status = 0x16#5 ∨
        t.block.status = 0x18#5) ∧
    (legalWord w = false → t.block.status = 0x1A#5)

/-- R173: an illegal word writes STATUS = 0x1A and nothing else, whatever its OP, and issues no transport call. -/
def Obligations.IllegalWordWritesOnlyStatus : Prop :=
  ∀ (w : Word) (s : State), legalWord w = false → runWord w s = .next { s with block.status := 0x1A#5 }

/-- R177, with the spec's "No command reads it", its own inference: no command reads STATUS, and each overwrites it
whole: what a command does is the same from every STATUS. It compares two runs in which the transport gives the same
answers, since the oracle is a function of the draw's number, the trace and the call (the model's choice, log entry
2). -/
def Obligations.NoCommandReadsStatus : Prop :=
  ∀ (i : Instr) (s : State) (st : BitVec 5), exec i { s with block.status := st } = exec i s

/-- R20, R24, R71: what a command does depends on DEVADDR, ACC and the transport alone: no command reads AUTOINIT, STATUS,
RDATA, RPEC, TXFRAME or anything of the host. From two states that agree on those three, a command leaves the same
DEVADDR, ACC, STATUS and transport; where it writes AUTOINIT, RDATA, RPEC, TXFRAME or BUSHELD it writes the same in
both, and where it does not, each stays. It compares two runs in which the transport gives the same answers, since the
oracle is a function of the draw's number, the trace and the call (the model's choice, log entry 2). -/
def Obligations.CommandsReadOnlyDevaddrAndAcc : Prop :=
  ∀ (i : Instr) (s s' t t' : State), s.block.devaddr = s'.block.devaddr → s.block.acc = s'.block.acc →
    s.transport = s'.transport → exec i s = .next t → exec i s' = .next t' →
      (t.block.devaddr = t'.block.devaddr ∧ t.block.acc = t'.block.acc ∧ t.block.status = t'.block.status ∧
        t.transport = t'.transport ∧ t.host = s.host ∧ t'.host = s'.host) ∧
      ((∃ a u, i = .init a u) → t.block.autoinit = t'.block.autoinit) ∧
      ((∀ a u, i ≠ .init a u) →
        t.block.autoinit = s.block.autoinit ∧ t'.block.autoinit = s'.block.autoinit) ∧
      ((∃ r, i = .read16 r) → t.block.busheld = t'.block.busheld) ∧
      ((∀ r, i ≠ .read16 r) → t.block.busheld = s.block.busheld ∧ t'.block.busheld = s'.block.busheld) ∧
      ((∃ r, i = .read16 r) → statusOk t.block.status = true →
        t.block.rdata = t'.block.rdata ∧ t.block.rpec = t'.block.rpec) ∧
      ((∀ r, i ≠ .read16 r) ∨ statusOk t.block.status = false →
        t.block.rdata = s.block.rdata ∧ t'.block.rdata = s'.block.rdata ∧
        t.block.rpec = s.block.rpec ∧ t'.block.rpec = s'.block.rpec) ∧
      ((∃ r v, i = .write16 r v) → t.block.txframe = t'.block.txframe) ∧
      ((∀ r v, i ≠ .write16 r v) →
        t.block.txframe = s.block.txframe ∧ t'.block.txframe = s'.block.txframe)

/-- R63, R66: the transport calls of each command, in order, appended to the trace and to nothing else: a READ16 stops
after a pointer phase answered FAIL; every other command issues its calls whole. -/
def Obligations.CallsAreIssuedInOrder : Prop :=
  ∀ (i : Instr) (s t : State), exec i s = .next t →
    ∃ es : List Event, t.transport.trace = s.transport.trace ++ es ∧
      match i with
      | .init _ auto => es.map Event.call = if auto = 1#1 then [Call.initBus] else []
      | .read16 reg =>
        es = [{ call := .send1RS s.block.devaddr reg, answer := .fail }] ∨
          ∃ ans, es =
            [{ call := .send1RS s.block.devaddr reg, answer := .ok },
             { call := .recv s.block.devaddr 3, answer := ans }]
      | .write16 reg val =>
        es.map Event.call =
          [Call.sendNStop s.block.devaddr (frameBytes (writeFrame s.block.devaddr reg val)) 4]
      | .pecclr => es = []
      | .pecbyte _ => es = []
      | .delay ms => es.map Event.call = [Call.delay ms]

/-! ## The host register window (R51 to R58) -/

/-- R26, R51: a read of STATUS returns OK at bit 0, CAUSE at bits 3:1, VALID at bit 4 and 0 above. -/
def Obligations.StatusReadsItsFields : Prop :=
  ∀ s : State, ∃ v : Word, memRead 0x04 4 s = .next (s.logRead 0x04 (.value v)) ∧
    v.getLsbD 0 = statusOk s.block.status ∧ v.extractLsb' 1 3 = statusCause s.block.status ∧
    v.getLsbD 4 = statusValid s.block.status ∧ v.extractLsb' 5 27 = 0#27

/-- R56: PECACC[7:0] = ACC, PECACC[31:8] = 0, and the read is always admitted. -/
def Obligations.PecaccPacksAcc : Prop :=
  ∀ s : State, ∃ v : Word, memRead 0x0C 4 s = .next (s.logRead 0x0C (.value v)) ∧
    v.extractLsb' 0 8 = s.block.acc ∧ v.extractLsb' 8 24 = 0#24

/-- R57: CONFIG[6:0] = DEVADDR, CONFIG[7] = 0, CONFIG[8] = AUTOINIT, CONFIG[31:9] = 0. -/
def Obligations.ConfigPacksDevaddrAndAutoinit : Prop :=
  ∀ s : State, ∃ v : Word, memRead 0x10 4 s = .next (s.logRead 0x10 (.value v)) ∧
    v.extractLsb' 0 7 = s.block.devaddr ∧ v.getLsbD 7 = false ∧ v.extractLsb' 8 1 = s.block.autoinit ∧
    v.extractLsb' 9 23 = 0#23

/-- R55: RESULT[15:0] = RDATA, RESULT[23:16] = RPEC, RESULT[31:24] = 0, so RDATA's low byte is RESULT[7:0]; in every
state that meets the machine's invariant (`StepKeepsInv`) both are UNWRITTEN or neither, and a read while they are is
refused and returns no number (R32). That the machine itself goes on after the refused read is the model's choice (log
entry 11). -/
def Obligations.ResultPacksRdataAndRpec : Prop :=
  ∀ s : State, s.Inv →
    (s.block.rdata = none ↔ s.block.rpec = none) ∧
    (∀ v p, s.block.rdata = some v → s.block.rpec = some p →
      ∃ x : Word, memRead 0x08 4 s = .next (s.logRead 0x08 (.value x)) ∧
        x.extractLsb' 0 16 = v ∧ x.extractLsb' 16 8 = p ∧ x.extractLsb' 24 8 = 0#8 ∧
        x.extractLsb' 0 8 = lowByte v) ∧
    (s.block.rdata = none → memRead 0x08 4 s = .next (s.logRead 0x08 .refused))

/-- R58: TXFRAME[8i+7:8i] is frame byte i: byte 0 the register address, byte 3 the PEC; while it is UNWRITTEN the read is
refused and returns no number (R32). That the machine itself goes on after the refused read is the model's choice (log
entry 11). -/
def Obligations.TxframePacksTheFrame : Prop :=
  ∀ s : State,
    (∀ f, s.block.txframe = some f →
      ∃ x : Word, memRead 0x14 4 s = .next (s.logRead 0x14 (.value x)) ∧
        x.extractLsb' 0 8 = f.reg ∧ x.extractLsb' 8 8 = f.lo ∧ x.extractLsb' 16 8 = f.hi ∧
        x.extractLsb' 24 8 = f.pec) ∧
    (s.block.txframe = none → memRead 0x14 4 s = .next (s.logRead 0x14 .refused))

/-- R51, R52, R72, R32: exactly these host accesses are admitted: 4-byte writes at 0x00 and 4-byte reads at 0x04, 0x08,
0x0C, 0x10 and 0x14; a read returns a value exactly where it is admitted and the content it reads is written, and an
admitted read of UNWRITTEN content is refused; every other access is refused. That the machine goes on after a refused
read of UNWRITTEN content, where it stops at an access outside R52, is the model's choice (log entry 11). -/
def Obligations.OnlyTheListedHostAccessesAreAdmitted : Prop :=
  ∀ (s : State) (off width : Nat),
    (∀ v : Word,
      ((∃ t, memWrite off width v s = .next t) ↔ off = 0x00 ∧ width = 4) ∧
      (¬(off = 0x00 ∧ width = 4) → ∃ r, memWrite off width v s = .refused r)) ∧
    ((∃ t, memRead off width s = .next t) ↔
      width = 4 ∧ (off = 0x04 ∨ off = 0x08 ∨ off = 0x0C ∨ off = 0x10 ∨ off = 0x14)) ∧
    ((∃ v, memRead off width s = .next (s.logRead off (.value v))) ↔
      width = 4 ∧ (off = 0x04 ∨ (off = 0x08 ∧ s.block.rdata.isSome ∧ s.block.rpec.isSome) ∨ off = 0x0C ∨ off = 0x10 ∨
        (off = 0x14 ∧ s.block.txframe.isSome))) ∧
    (memRead off width s = .next (s.logRead off .refused) ↔
      width = 4 ∧ ((off = 0x08 ∧ ¬(s.block.rdata.isSome ∧ s.block.rpec.isSome)) ∨
        (off = 0x14 ∧ ¬s.block.txframe.isSome))) ∧
    ((∀ t, memRead off width s ≠ .next t) → ∃ r, memRead off width s = .refused r)

/-- R54: a host read changes nothing of the block or the transport and nothing the host is about to do; the answer goes
to the host; and after it every read is answered as it would have been before. That the host's side records the answer
is the model's choice (log entry 7). -/
def Obligations.HostReadsHaveNoSideEffect : Prop :=
  ∀ (s t : State) (off width : Nat), memRead off width s = .next t →
    t.block = s.block ∧ t.transport = s.transport ∧ t.host.pending = s.host.pending ∧
    t.host.program = s.host.program ∧ t.host.index = s.host.index ∧ t.host.programEnd = s.host.programEnd ∧
    (∃ a, t.host.hostReads = s.host.hostReads ++ [{ off := off, answer := a }] ∧
      memRead off width t = .next (t.logRead off a)) ∧
    ∀ off' width', readAnswer off' width' t.block = readAnswer off' width' s.block

/-! ## The step (R53, R160 to R163) -/

/-- R53, R173, R200: when the next thing done to the block is a write of a command's word to CMD, the step is that
command's meaning on the state with that write taken off; an illegal word raises IllegalCommand; a host read is that
read, and a reset is the reset event. The queue `pending`, and that its head is done before a running program goes on,
are the model's choice (log entry 6), as is what the reset event leaves of the host's side (log entry 9). -/
def Obligations.StepTakesTheNextStimulus : Prop :=
  ∀ (s : State) (rest : List Stimulus),
    (∀ w i, s.host.pending = .write 0x00 4 w :: rest → decode w = .ok i → step s = exec i (s.setPending rest)) ∧
    (∀ w, s.host.pending = .write 0x00 4 w :: rest → legalWord w = false →
      step s = .next (s.setPending rest).raiseIllegalCommand) ∧
    (∀ off width, s.host.pending = .read off width :: rest → step s = memRead off width (s.setPending rest)) ∧
    (s.host.pending = .reset :: rest → step s = .next (s.setPending rest).assertReset)

/-- A command's word put where the step takes its next command from is what the step runs, from every state (R53, log
entry 6). -/
def Obligations.StepRunsThePlacedCommand : Prop :=
  ∀ (s : State) (i : Instr),
    decodeTableWord 32 (encode i).toNat = some i ∧ step (s.withFetchWord 32 (encode i).toNat) = exec i s

/-- R160, R161: a step of the command program writes its word to CMD, reads STATUS and applies stop at first failure. That
the three are one step, and the record of the value read, are the model's (log entries 7 and 8). -/
def Obligations.ProgramStepStopsAtFirstFailure : Prop :=
  ∀ (s t : State) (w : Word), s.host.pending = [] → s.host.programEnd = none →
    s.host.program[s.host.index]? = some w → runWord w s = .next t →
      ∃ u, step s = .next u ∧ u.block = t.block ∧ u.transport = t.transport ∧ u.host.pending = [] ∧
        u.host.program = s.host.program ∧
        u.host.hostReads = s.host.hostReads ++ [{ off := 0x04, answer := .value (statusWord t.block.status) }] ∧
        (statusOk t.block.status = true → s.host.index + 1 < s.host.program.length →
          u.host.index = s.host.index + 1 ∧ u.host.programEnd = none) ∧
        (statusOk t.block.status = true → s.host.index + 1 = s.host.program.length →
          u.host.index = s.host.index ∧ u.host.programEnd = some .success) ∧
        (statusOk t.block.status = false →
          u.host.index = s.host.index ∧ u.host.programEnd = some (.failure s.host.index))

/-- R161, R185: once a program has ended no later word is issued, and with nothing to do the block is idle: the step
changes nothing. -/
def Obligations.EndedProgramIssuesNothing : Prop :=
  ∀ s : State, s.host.pending = [] →
    s.host.programEnd.isSome ∨ s.host.program.length ≤ s.host.index → step s = .next s

/-- "Every program of n words therefore takes at most n steps and always ends", the spec's own inference from R161 and
R59; it ends in success only after its last word. That every transport call is answered is the spec's assumption (U6, log
entry 5), and that a program of no words has ended in success is the model's choice (log entry 8). -/
def Obligations.EveryCommandProgramEnds : Prop :=
  ∀ (s : State) (p : List Word), s.host.pending = [] →
    ∃ n t, n ≤ p.length ∧ Sys2Proof.core.run n (s.loadProgram p) = .next t ∧
      (t.host.programEnd = some .success ∧ n = p.length ∨ t.host.programEnd = some (.failure (n - 1)) ∧ 0 < n)

/-- R68, R183: a launch takes one host; with further hosts it is refused. -/
def Obligations.LaunchTakesOneHost : Prop :=
  ∀ (p q : List Word) (qs : List (List Word)),
    launch p (q :: qs) = .refused .concurrentHosts ∧ ∃ t, launch p [] = .next t ∧ t.block = Block.reset ∧
      t.transport.trace = [] ∧ t.host.program = p ∧ t.host.index = 0

/-! ## Reset and the invariant -/

/-- R200: reset sets every element of R20 as the table says, at power-up and on the reset event alike, and empties the
trace; after it the block is idle and accepts a CMD write at once. -/
def Obligations.ResetSetsEveryElement : Prop :=
  (∀ s : State, s = State.reset ∨ (∃ s' : State, s = s'.assertReset) →
    s.block.devaddr = 0x5A#7 ∧ s.block.autoinit = 0#1 ∧ s.block.acc = 0x00#8 ∧
    statusWord s.block.status = 0x00000000#32 ∧ s.block.rdata = none ∧ s.block.rpec = none ∧
    s.block.txframe = none ∧ s.transport.trace = [] ∧ ∀ w, ∃ t, memWrite 0x00 4 w s = .next t) ∧
  step State.reset = .next State.reset

/-- R201: reset issues no transport call: no answer is drawn. That the host's side is left alone too is the model's
choice (log entry 9). -/
def Obligations.ResetIssuesNoCall : Prop :=
  ∀ (s : State) (rest : List Stimulus), s.host.pending = .reset :: rest →
    ∃ t, step s = .next t ∧ t.transport.trace = [] ∧ t.transport.answers = s.transport.answers ∧
      t.transport.draws = s.transport.draws ∧ t.host = (s.setPending rest).host

/-- The state after reset meets the invariant. BUSHELD's reset value is the model's (log entry 12). -/
def Obligations.ResetMeetsInv : Prop := State.reset.Inv

/-- Every step keeps the invariant `State.Inv` from every state that meets it, reachable or not: STATUS is one of the
combinations of R26, RDATA and RPEC are written together (R55), BUSHELD is false between commands (R31), the frame in
TXFRAME checks (R133), the trace is made of whole transactions (R63, R66), host reads return 0 in reserved bits (R26,
R55 to R57) and the program's index stays where R161 puts it. -/
def Obligations.StepKeepsInv : Prop := ∀ s t : State, s.Inv → step s = .next t → t.Inv

/-! ## The assembler notation and the sensor map (R64, R87 to R89) -/

/-- R87, R89: the disassembly of a legal word is a line of the assembler's syntax and assembles back to that word. -/
def Obligations.DisassemblyAssemblesBack : Prop :=
  ∀ w : Word, legalWord w = true → assembleChars (disassembleChars w) = .ok [w]

/-- R87, R88: an operand that does not fit its field (an addr7 above 0x7F, auto above 1, reg or byte above 0xFF, val or ms
above 0xFFFF) is an error and never a truncation; with operands that fit, each mnemonic of R87 gives its one word, and
`PEC` and `EWRITE` the words of the commands R88 lists. -/
def Obligations.AssemblerChecksAndExpands : Prop :=
  (∀ c : AsmCmd, c.wellFormed = false → assemble c = .error .operandDoesNotFit) ∧
  (∀ a u : Nat, 2 ^ 7 ≤ a ∨ 2 ≤ u → assemble (.init a u) = .error .operandDoesNotFit) ∧
  (∀ r : Nat, 2 ^ 8 ≤ r → assemble (.read16 r) = .error .operandDoesNotFit) ∧
  (∀ r v : Nat, 2 ^ 8 ≤ r ∨ 2 ^ 16 ≤ v →
    assemble (.write16 r v) = .error .operandDoesNotFit ∧ assemble (.ewrite r v) = .error .operandDoesNotFit) ∧
  (∀ b : Nat, 2 ^ 8 ≤ b → assemble (.pecbyte b) = .error .operandDoesNotFit) ∧
  (∀ ms : Nat, 2 ^ 16 ≤ ms → assemble (.delay ms) = .error .operandDoesNotFit) ∧
  (∀ bs : List Nat, (∃ b ∈ bs, 2 ^ 8 ≤ b) → assemble (.pec bs) = .error .operandDoesNotFit) ∧
  (∀ (a : Addr7) (u : BitVec 1), assemble (.init a.toNat u.toNat) = .ok [encode (.init a u)]) ∧
  (∀ r : Byte, assemble (.read16 r.toNat) = .ok [encode (.read16 r)]) ∧
  (∀ (r : Byte) (v : Half), assemble (.write16 r.toNat v.toNat) = .ok [encode (.write16 r v)]) ∧
  assemble .pecclr = .ok [encode .pecclr] ∧
  (∀ b : Byte, assemble (.pecbyte b.toNat) = .ok [encode (.pecbyte b)]) ∧
  (∀ ms : Half, assemble (.delay ms.toNat) = .ok [encode (.delay ms)]) ∧
  (∀ (r : Byte) (v : Half),
    assemble (.ewrite r.toNat v.toNat) =
      .ok [encode (.write16 r 0#16), encode (.delay 10#16), encode (.write16 r v), encode (.delay 10#16)]) ∧
  (∀ bs : List Byte,
    assemble (.pec (bs.map BitVec.toNat)) = .ok (encode .pecclr :: bs.map fun b => encode (.pecbyte b)))

/-- R64: the sixteen named sensor registers with their addresses and spellings; an address is EEPROM for the hazards
exactly when it is in 0x20 to 0x3F; a named register is EEPROM exactly when its address is, and RAM exactly in 0x04 to
0x08; no two names share an address; and a spelling names the one register it belongs to and nothing else does. -/
def Obligations.SensorMapIsTheSpecs : Prop :=
  ((sensorAddress .rawir1 = 0x04#8 ∧ sensorName .rawir1 = "RAWIR1") ∧
    (sensorAddress .rawir2 = 0x05#8 ∧ sensorName .rawir2 = "RAWIR2") ∧
    (sensorAddress .ambient = 0x06#8 ∧ sensorName .ambient = "AMBIENT") ∧
    (sensorAddress .object1 = 0x07#8 ∧ sensorName .object1 = "OBJECT1") ∧
    (sensorAddress .object2 = 0x08#8 ∧ sensorName .object2 = "OBJECT2") ∧
    (sensorAddress .tomax = 0x20#8 ∧ sensorName .tomax = "TOMAX") ∧
    (sensorAddress .tomin = 0x21#8 ∧ sensorName .tomin = "TOMIN") ∧
    (sensorAddress .pwmctrl = 0x22#8 ∧ sensorName .pwmctrl = "PWMCTRL") ∧
    (sensorAddress .tarange = 0x23#8 ∧ sensorName .tarange = "TARANGE") ∧
    (sensorAddress .emissivity = 0x24#8 ∧ sensorName .emissivity = "EMISSIVITY") ∧
    (sensorAddress .config = 0x25#8 ∧ sensorName .config = "CONFIG") ∧
    (sensorAddress .address = 0x2E#8 ∧ sensorName .address = "ADDRESS") ∧
    (sensorAddress .id1 = 0x3C#8 ∧ sensorName .id1 = "ID1") ∧
    (sensorAddress .id2 = 0x3D#8 ∧ sensorName .id2 = "ID2") ∧
    (sensorAddress .id3 = 0x3E#8 ∧ sensorName .id3 = "ID3") ∧
    (sensorAddress .id4 = 0x3F#8 ∧ sensorName .id4 = "ID4")) ∧
  (∀ b : Byte, isEeprom b = true ↔ 0x20 ≤ b.toNat ∧ b.toNat ≤ 0x3F) ∧
  (∀ r : SensorReg, (sensorClass r = .eeprom ↔ 0x20 ≤ (sensorAddress r).toNat ∧ (sensorAddress r).toNat ≤ 0x3F) ∧
    (sensorClass r = .eeprom ↔ isEeprom (sensorAddress r) = true) ∧
    (sensorClass r = .ram ↔ 0x04#8 ≤ sensorAddress r ∧ sensorAddress r ≤ 0x08#8) ∧
    (∀ r', sensorAddress r = sensorAddress r' → r = r') ∧ sensorNamed (sensorName r).toList = some r) ∧
  ∀ (name : List Char) (r : SensorReg), sensorNamed name = some r → name = (sensorName r).toList

/-! ## The EEPROM hazards (R203, R204) -/

/-- R204: the trace keeps the EEPROM write cycle exactly when, between every EEPROM send and the next call to the same
bus address, the recorded `Delay` events sum to 10 ms or more. -/
def Obligations.EepromWaitMeansTenMilliseconds : Prop :=
  ∀ trace : List Event,
    eepromWaitOk trace = true ↔
      ∀ (before between after : List Event) (e e' : Event) (a : Addr7),
        trace = before ++ e :: (between ++ e' :: after) → eepromSendTo e.call = some a →
        (∀ m ∈ between, busAddress m.call ≠ some a) → busAddress e'.call = some a →
          10 ≤ (between.map fun m => waitMs m.call).sum

/-- R203: the trace keeps erase-before-write exactly when every EEPROM write of a value has before it the erase of the
same register at the same bus address, answered OK, with no other WRITE16 to that register and 10 ms or more of recorded
waits in between. "No other WRITE16" is read for every bus address (log entry 15). -/
def Obligations.EraseComesBeforeEveryValueWrite : Prop :=
  ∀ trace : List Event,
    eraseBeforeWriteOk trace = true ↔
      ∀ (before after : List Event) (e : Event) (a : Addr7) (reg : Byte),
        trace = before ++ e :: after → eepromValueWrite e.call = some (a, reg) →
          ∃ (earlier between : List Event) (er : Event), before = earlier ++ er :: between ∧
            isErase a reg er = true ∧ (∀ m ∈ between, writtenReg m.call ≠ some reg) ∧
            10 ≤ (between.map fun m => waitMs m.call).sum

/-- R88, R203, R204: the four commands of `EWRITE reg, val` keep both hazards on an empty trace, for every register and
value, when the erase is answered OK, whatever the second send is answered. -/
def Obligations.EwriteIsHazardFree : Prop :=
  ∀ (s : State) (reg : Byte) (val : Half), s.transport.trace = [] →
    (s.drawFor (.sendNStop s.block.devaddr (frameBytes (writeFrame s.block.devaddr reg 0#16)) 4)).ok = true →
      ∃ t, runInstrs (expandEwrite reg val) s = .next t ∧ hazardFree t.transport.trace = true
end

