-- ==== Sys2Proof/Laws/State.lean ====
section
/-!
SUPPORT. Laws/State.lean: what each update of the state does to each field, one lemma per field, true by unfolding the
update once. A part of the state (block, transport, host) that an update leaves alone has one lemma for the whole part.
-/

namespace Sys2Proof.Machine

@[simp] theorem State.setDevice_block_devaddr (s : State) (addr : Addr7) (auto : BitVec 1) :
    (s.setDevice addr auto).block.devaddr = addr :=
  rfl
@[simp] theorem State.setDevice_block_autoinit (s : State) (addr : Addr7) (auto : BitVec 1) :
    (s.setDevice addr auto).block.autoinit = auto :=
  rfl
@[simp] theorem State.setDevice_block_acc (s : State) (addr : Addr7) (auto : BitVec 1) :
    (s.setDevice addr auto).block.acc = s.block.acc :=
  rfl
@[simp] theorem State.setDevice_block_status (s : State) (addr : Addr7) (auto : BitVec 1) :
    (s.setDevice addr auto).block.status = s.block.status :=
  rfl
@[simp] theorem State.setDevice_block_rdata (s : State) (addr : Addr7) (auto : BitVec 1) :
    (s.setDevice addr auto).block.rdata = s.block.rdata :=
  rfl
@[simp] theorem State.setDevice_block_rpec (s : State) (addr : Addr7) (auto : BitVec 1) :
    (s.setDevice addr auto).block.rpec = s.block.rpec :=
  rfl
@[simp] theorem State.setDevice_block_txframe (s : State) (addr : Addr7) (auto : BitVec 1) :
    (s.setDevice addr auto).block.txframe = s.block.txframe :=
  rfl
@[simp] theorem State.setDevice_block_busheld (s : State) (addr : Addr7) (auto : BitVec 1) :
    (s.setDevice addr auto).block.busheld = s.block.busheld :=
  rfl
@[simp] theorem State.setDevice_transport (s : State) (addr : Addr7) (auto : BitVec 1) : (s.setDevice addr auto).transport = s.transport := rfl
@[simp] theorem State.setDevice_host (s : State) (addr : Addr7) (auto : BitVec 1) : (s.setDevice addr auto).host = s.host := rfl

@[simp] theorem State.setAcc_block_devaddr (s : State) (v : Byte) :
    (s.setAcc v).block.devaddr = s.block.devaddr :=
  rfl
@[simp] theorem State.setAcc_block_autoinit (s : State) (v : Byte) :
    (s.setAcc v).block.autoinit = s.block.autoinit :=
  rfl
@[simp] theorem State.setAcc_block_acc (s : State) (v : Byte) : (s.setAcc v).block.acc = v := rfl
@[simp] theorem State.setAcc_block_status (s : State) (v : Byte) : (s.setAcc v).block.status = s.block.status := rfl
@[simp] theorem State.setAcc_block_rdata (s : State) (v : Byte) : (s.setAcc v).block.rdata = s.block.rdata := rfl
@[simp] theorem State.setAcc_block_rpec (s : State) (v : Byte) : (s.setAcc v).block.rpec = s.block.rpec := rfl
@[simp] theorem State.setAcc_block_txframe (s : State) (v : Byte) :
    (s.setAcc v).block.txframe = s.block.txframe :=
  rfl
@[simp] theorem State.setAcc_block_busheld (s : State) (v : Byte) :
    (s.setAcc v).block.busheld = s.block.busheld :=
  rfl
@[simp] theorem State.setAcc_transport (s : State) (v : Byte) : (s.setAcc v).transport = s.transport := rfl
@[simp] theorem State.setAcc_host (s : State) (v : Byte) : (s.setAcc v).host = s.host := rfl

@[simp] theorem State.setResult_block_devaddr (s : State) (v : Half) (p : Byte) :
    (s.setResult v p).block.devaddr = s.block.devaddr :=
  rfl
@[simp] theorem State.setResult_block_autoinit (s : State) (v : Half) (p : Byte) :
    (s.setResult v p).block.autoinit = s.block.autoinit :=
  rfl
@[simp] theorem State.setResult_block_acc (s : State) (v : Half) (p : Byte) :
    (s.setResult v p).block.acc = s.block.acc :=
  rfl
@[simp] theorem State.setResult_block_status (s : State) (v : Half) (p : Byte) :
    (s.setResult v p).block.status = s.block.status :=
  rfl
@[simp] theorem State.setResult_block_rdata (s : State) (v : Half) (p : Byte) :
    (s.setResult v p).block.rdata = some v :=
  rfl
@[simp] theorem State.setResult_block_rpec (s : State) (v : Half) (p : Byte) :
    (s.setResult v p).block.rpec = some p :=
  rfl
@[simp] theorem State.setResult_block_txframe (s : State) (v : Half) (p : Byte) :
    (s.setResult v p).block.txframe = s.block.txframe :=
  rfl
@[simp] theorem State.setResult_block_busheld (s : State) (v : Half) (p : Byte) :
    (s.setResult v p).block.busheld = s.block.busheld :=
  rfl
@[simp] theorem State.setResult_transport (s : State) (v : Half) (p : Byte) : (s.setResult v p).transport = s.transport := rfl
@[simp] theorem State.setResult_host (s : State) (v : Half) (p : Byte) : (s.setResult v p).host = s.host := rfl

@[simp] theorem State.setTxframe_block_devaddr (s : State) (f : Frame) :
    (s.setTxframe f).block.devaddr = s.block.devaddr :=
  rfl
@[simp] theorem State.setTxframe_block_autoinit (s : State) (f : Frame) :
    (s.setTxframe f).block.autoinit = s.block.autoinit :=
  rfl
@[simp] theorem State.setTxframe_block_acc (s : State) (f : Frame) : (s.setTxframe f).block.acc = s.block.acc := rfl
@[simp] theorem State.setTxframe_block_status (s : State) (f : Frame) :
    (s.setTxframe f).block.status = s.block.status :=
  rfl
@[simp] theorem State.setTxframe_block_rdata (s : State) (f : Frame) :
    (s.setTxframe f).block.rdata = s.block.rdata :=
  rfl
@[simp] theorem State.setTxframe_block_rpec (s : State) (f : Frame) :
    (s.setTxframe f).block.rpec = s.block.rpec :=
  rfl
@[simp] theorem State.setTxframe_block_txframe (s : State) (f : Frame) :
    (s.setTxframe f).block.txframe = some f :=
  rfl
@[simp] theorem State.setTxframe_block_busheld (s : State) (f : Frame) :
    (s.setTxframe f).block.busheld = s.block.busheld :=
  rfl
@[simp] theorem State.setTxframe_transport (s : State) (f : Frame) : (s.setTxframe f).transport = s.transport := rfl
@[simp] theorem State.setTxframe_host (s : State) (f : Frame) : (s.setTxframe f).host = s.host := rfl

@[simp] theorem State.setBusheld_block_devaddr (s : State) (b : Bool) :
    (s.setBusheld b).block.devaddr = s.block.devaddr :=
  rfl
@[simp] theorem State.setBusheld_block_autoinit (s : State) (b : Bool) :
    (s.setBusheld b).block.autoinit = s.block.autoinit :=
  rfl
@[simp] theorem State.setBusheld_block_acc (s : State) (b : Bool) : (s.setBusheld b).block.acc = s.block.acc := rfl
@[simp] theorem State.setBusheld_block_status (s : State) (b : Bool) :
    (s.setBusheld b).block.status = s.block.status :=
  rfl
@[simp] theorem State.setBusheld_block_rdata (s : State) (b : Bool) :
    (s.setBusheld b).block.rdata = s.block.rdata :=
  rfl
@[simp] theorem State.setBusheld_block_rpec (s : State) (b : Bool) : (s.setBusheld b).block.rpec = s.block.rpec := rfl
@[simp] theorem State.setBusheld_block_txframe (s : State) (b : Bool) :
    (s.setBusheld b).block.txframe = s.block.txframe :=
  rfl
@[simp] theorem State.setBusheld_block_busheld (s : State) (b : Bool) : (s.setBusheld b).block.busheld = b := rfl
@[simp] theorem State.setBusheld_transport (s : State) (b : Bool) : (s.setBusheld b).transport = s.transport := rfl
@[simp] theorem State.setBusheld_host (s : State) (b : Bool) : (s.setBusheld b).host = s.host := rfl

@[simp] theorem State.setStatus_block_devaddr (s : State) (st : BitVec 5) :
    (s.setStatus st).block.devaddr = s.block.devaddr :=
  rfl
@[simp] theorem State.setStatus_block_autoinit (s : State) (st : BitVec 5) :
    (s.setStatus st).block.autoinit = s.block.autoinit :=
  rfl
@[simp] theorem State.setStatus_block_acc (s : State) (st : BitVec 5) :
    (s.setStatus st).block.acc = s.block.acc :=
  rfl
@[simp] theorem State.setStatus_block_status (s : State) (st : BitVec 5) : (s.setStatus st).block.status = st := rfl
@[simp] theorem State.setStatus_block_rdata (s : State) (st : BitVec 5) :
    (s.setStatus st).block.rdata = s.block.rdata :=
  rfl
@[simp] theorem State.setStatus_block_rpec (s : State) (st : BitVec 5) :
    (s.setStatus st).block.rpec = s.block.rpec :=
  rfl
@[simp] theorem State.setStatus_block_txframe (s : State) (st : BitVec 5) :
    (s.setStatus st).block.txframe = s.block.txframe :=
  rfl
@[simp] theorem State.setStatus_block_busheld (s : State) (st : BitVec 5) :
    (s.setStatus st).block.busheld = s.block.busheld :=
  rfl
@[simp] theorem State.setStatus_transport (s : State) (st : BitVec 5) : (s.setStatus st).transport = s.transport := rfl
@[simp] theorem State.setStatus_host (s : State) (st : BitVec 5) : (s.setStatus st).host = s.host := rfl

@[simp] theorem State.issue_block (s : State) (c : Call) : (s.issue c).block = s.block := rfl
@[simp] theorem State.issue_transport_trace (s : State) (c : Call) :
    (s.issue c).transport.trace = s.transport.trace ++ [{ call := c, answer := answerOf c (s.drawFor c) }] :=
  rfl
@[simp] theorem State.issue_transport_answers (s : State) (c : Call) :
    (s.issue c).transport.answers = s.transport.answers.tail :=
  rfl
@[simp] theorem State.issue_transport_draws (s : State) (c : Call) :
    (s.issue c).transport.draws = s.transport.draws + 1 :=
  rfl
@[simp] theorem State.issue_host (s : State) (c : Call) : (s.issue c).host = s.host := rfl

@[simp] theorem State.delayCall_block (s : State) (ms : Half) : (s.delayCall ms).block = s.block := rfl
@[simp] theorem State.delayCall_transport_trace (s : State) (ms : Half) :
    (s.delayCall ms).transport.trace = s.transport.trace ++ [{ call := .delay ms, answer := .noAnswer }] :=
  rfl
@[simp] theorem State.delayCall_transport_answers (s : State) (ms : Half) :
    (s.delayCall ms).transport.answers = s.transport.answers :=
  rfl
@[simp] theorem State.delayCall_transport_draws (s : State) (ms : Half) :
    (s.delayCall ms).transport.draws = s.transport.draws :=
  rfl
@[simp] theorem State.delayCall_host (s : State) (ms : Half) : (s.delayCall ms).host = s.host := rfl

@[simp] theorem State.assertReset_block (s : State) : s.assertReset.block = Block.reset := rfl
@[simp] theorem State.assertReset_transport_trace (s : State) : s.assertReset.transport.trace = [] := rfl
@[simp] theorem State.assertReset_transport_answers (s : State) :
    s.assertReset.transport.answers = s.transport.answers :=
  rfl
@[simp] theorem State.assertReset_transport_draws (s : State) :
    s.assertReset.transport.draws = s.transport.draws :=
  rfl
@[simp] theorem State.assertReset_host (s : State) : s.assertReset.host = s.host := rfl

@[simp] theorem State.logRead_block (s : State) (off : Nat) (a : ReadAnswer) : (s.logRead off a).block = s.block := rfl
@[simp] theorem State.logRead_transport (s : State) (off : Nat) (a : ReadAnswer) : (s.logRead off a).transport = s.transport := rfl
@[simp] theorem State.logRead_host_pending (s : State) (off : Nat) (a : ReadAnswer) :
    (s.logRead off a).host.pending = s.host.pending :=
  rfl
@[simp] theorem State.logRead_host_hostReads (s : State) (off : Nat) (a : ReadAnswer) :
    (s.logRead off a).host.hostReads = s.host.hostReads ++ [{ off := off, answer := a }] :=
  rfl
@[simp] theorem State.logRead_host_program (s : State) (off : Nat) (a : ReadAnswer) :
    (s.logRead off a).host.program = s.host.program :=
  rfl
@[simp] theorem State.logRead_host_index (s : State) (off : Nat) (a : ReadAnswer) :
    (s.logRead off a).host.index = s.host.index :=
  rfl
@[simp] theorem State.logRead_host_programEnd (s : State) (off : Nat) (a : ReadAnswer) :
    (s.logRead off a).host.programEnd = s.host.programEnd :=
  rfl

@[simp] theorem State.setPending_block (s : State) (p : List Stimulus) : (s.setPending p).block = s.block := rfl
@[simp] theorem State.setPending_transport (s : State) (p : List Stimulus) : (s.setPending p).transport = s.transport := rfl
@[simp] theorem State.setPending_host_pending (s : State) (p : List Stimulus) :
    (s.setPending p).host.pending = p :=
  rfl
@[simp] theorem State.setPending_host_hostReads (s : State) (p : List Stimulus) :
    (s.setPending p).host.hostReads = s.host.hostReads :=
  rfl
@[simp] theorem State.setPending_host_program (s : State) (p : List Stimulus) :
    (s.setPending p).host.program = s.host.program :=
  rfl
@[simp] theorem State.setPending_host_index (s : State) (p : List Stimulus) :
    (s.setPending p).host.index = s.host.index :=
  rfl
@[simp] theorem State.setPending_host_programEnd (s : State) (p : List Stimulus) :
    (s.setPending p).host.programEnd = s.host.programEnd :=
  rfl

@[simp] theorem State.loadProgram_block (s : State) (p : List Word) : (s.loadProgram p).block = s.block := rfl
@[simp] theorem State.loadProgram_transport (s : State) (p : List Word) : (s.loadProgram p).transport = s.transport := rfl
@[simp] theorem State.loadProgram_host_pending (s : State) (p : List Word) :
    (s.loadProgram p).host.pending = s.host.pending :=
  rfl
@[simp] theorem State.loadProgram_host_hostReads (s : State) (p : List Word) :
    (s.loadProgram p).host.hostReads = s.host.hostReads :=
  rfl
@[simp] theorem State.loadProgram_host_program (s : State) (p : List Word) : (s.loadProgram p).host.program = p := rfl
@[simp] theorem State.loadProgram_host_index (s : State) (p : List Word) : (s.loadProgram p).host.index = 0 := rfl
@[simp] theorem State.loadProgram_host_programEnd (s : State) (p : List Word) :
    (s.loadProgram p).host.programEnd = if p.isEmpty then some .success else none :=
  rfl

end Sys2Proof.Machine
end

