-- ==== Sys2Proof/Laws/Ops.lean ====
section
/-!
SUPPORT. Laws/Ops.lean: one lemma per shared operation that says everything it can do, for proofs to cite instead of
unfolding it.
-/

namespace Sys2Proof.Machine

/-- The draw for a call while the transport's answers to come are given. -/
theorem drawFor_of_answers {s : State} {d : Draw} {ds : List Draw} (h : s.transport.answers = d :: ds) (c : Call) :
    s.drawFor c = d := by
  simp [State.drawFor, h]

/-- The draw for a call is free once no answer is given. -/
theorem drawFor_of_no_answers {s : State} (h : s.transport.answers = []) (c : Call) :
    s.drawFor c = Config.oracle s.transport.draws s.transport.trace c := by
  simp [State.drawFor, h]

/-- The draw for a call depends on the transport alone (R59, log entry 2). -/
theorem drawFor_congr {s s' : State} (h : s.transport = s'.transport) (c : Call) : s.drawFor c = s'.drawFor c := by
  simp only [State.drawFor, h]

/-- `complete()` writes STATUS and nothing else. -/
theorem State.complete_eq (s : State) : s.complete = { s with block.status := 0x11#5 } := rfl

/-- `raise BusFailure(c)` writes STATUS and nothing else. -/
theorem State.raiseBusFailure_eq (s : State) (c : BusPhase) :
    s.raiseBusFailure c = { s with block.status := statusFailure (busCause c) } := rfl

/-- Ending on an OK answer is `complete()`. -/
@[simp] theorem State.endOn_true (s : State) (c : BusPhase) : s.endOn true c = s.complete := rfl

/-- Ending on a FAIL answer is `raise BusFailure(c)`. -/
@[simp] theorem State.endOn_false (s : State) (c : BusPhase) : s.endOn false c = s.raiseBusFailure c := rfl

/-- `raise IllegalCommand()` writes STATUS and nothing else. -/
theorem State.raiseIllegalCommand_eq (s : State) :
    s.raiseIllegalCommand = { s with block.status := 0x1A#5 } := rfl

/-- A sequence of two answers a next state exactly when both parts do. -/
theorem andThen_next_iff {o : Host.Outcome State Fault Refusal} {f : State → Host.Outcome State Fault Refusal}
    {t : State} : andThen o f = .next t ↔ ∃ s, o = .next s ∧ f s = .next t := by
  cases o <;> simp [andThen]

/-- Each window register stands at one offset, a multiple of 4 below 0x18. -/
theorem windowAt_some {off : Nat} {r : WindowReg} (h : windowAt off = some r) : off % 4 = 0 ∧ off ≤ 0x14 := by
  unfold windowAt at h
  repeat' split at h
  all_goals first | omega | cases h

/-- An access reaches a register exactly when it is 4 bytes wide and at that register's offset. -/
theorem windowAccess_ok_iff {off width : Nat} {r : WindowReg} :
    windowAccess off width = .ok r ↔ width = 4 ∧ windowAt off = some r := by
  unfold windowAccess
  constructor
  · intro h
    split at h
    · cases h
    · split at h
      · cases h
      · split at h <;> simp_all
  · rintro ⟨rfl, h⟩
    simp [h, (windowAt_some h).1]

/-- A host read answers a next state exactly when it is admitted, and then only notes what it was answered. -/
theorem memRead_next_iff {off width : Nat} {s t : State} :
    memRead off width s = .next t ↔ ∃ v, readAnswer off width s.block = .ok v ∧ t = s.logRead off v := by
  unfold memRead
  cases readAnswer off width s.block <;> simp [eq_comm]

/-- Written RDATA and RPEC are read as their values, packed. -/
theorem resultAnswer_of_written {b : Block} {v : Half} {p : Byte} (hv : b.rdata = some v) (hp : b.rpec = some p) :
    resultAnswer b = .value (resultWord v p) := by
  simp [resultAnswer, hv, hp]

/-- A read of RESULT is refused while RDATA is UNWRITTEN. -/
theorem resultAnswer_of_unwritten {b : Block} (h : b.rdata = none) : resultAnswer b = .refused := by
  simp only [resultAnswer, h]
  cases b.rpec <;> rfl

/-- A written TXFRAME is read as its bytes, packed. -/
theorem txframeAnswer_of_written {b : Block} {f : Frame} (h : b.txframe = some f) :
    txframeAnswer b = .value (txframeWord f) := by
  simp [txframeAnswer, h]

/-- A read of TXFRAME is refused while it is UNWRITTEN. -/
theorem txframeAnswer_of_unwritten {b : Block} (h : b.txframe = none) : txframeAnswer b = .refused := by
  simp [txframeAnswer, h]

/-- A RESULT read of 4 bytes always goes on, with its answer noted. -/
theorem memRead_result (s : State) : memRead 0x08 4 s = .next (s.logRead 0x08 (resultAnswer s.block)) := rfl

/-- A TXFRAME read of 4 bytes always goes on, with its answer noted. -/
theorem memRead_txframe (s : State) : memRead 0x14 4 s = .next (s.logRead 0x14 (txframeAnswer s.block)) := rfl

/-- A host write answers a next state exactly when it is a CMD write of 4 bytes whose command does. -/
theorem memWrite_next_iff {off width : Nat} {v : Word} {s t : State} :
    memWrite off width v s = .next t ↔ width = 4 ∧ windowAt off = some .cmd ∧ runWord v s = .next t := by
  unfold memWrite
  split
  · next h => simp [windowAccess_ok_iff.1 h]
  · next r hr h =>
    have := (windowAccess_ok_iff.1 h).2
    simp only [this, reduceCtorEq, Option.some.injEq, false_iff]
    exact fun h' => hr h'.2.1
  · next e h =>
    constructor
    · intro h'; cases h'
    · rintro ⟨hw, hc, -⟩
      rw [windowAccess_ok_iff.2 ⟨hw, hc⟩] at h
      cases h

/-- A CMD write of 4 bytes runs its word. -/
theorem memWrite_cmd (w : Word) (s : State) : memWrite 0x00 4 w s = runWord w s := rfl

/-- A STATUS read of 4 bytes always returns STATUS. -/
theorem memRead_status (s : State) : memRead 0x04 4 s = .next (s.logRead 0x04 (.value (statusWord s.block.status))) := rfl

/-- One step of the command program runs the word, then notes the STATUS read and applies R161. -/
theorem programStep_eq (w : Word) (s : State) :
    programStep w s =
      andThen (runWord w s) fun t => .next (applyPolicy (t.logRead 0x04 (.value (statusWord t.block.status)))) := rfl

/-- Everything a step can do. -/
theorem step_cases (s : State) :
    (∃ x rest, s.host.pending = x :: rest ∧ step s = applyStimulus x (s.setPending rest)) ∨
    (s.host.pending = [] ∧ ∃ w, nextWord s.host = some w ∧ step s = programStep w s) ∨
    (s.host.pending = [] ∧ nextWord s.host = none ∧ step s = .next s) := by
  unfold step hostStep
  split
  · next x rest h => exact .inl ⟨x, rest, h, rfl⟩
  · next h =>
    split
    · next w hw => exact .inr (.inl ⟨h, w, hw, rfl⟩)
    · next hw => exact .inr (.inr ⟨h, hw, rfl⟩)

/-- R161 moves only the index and the end of the program. -/
theorem applyPolicy_block (s : State) : (applyPolicy s).block = s.block := by
  unfold applyPolicy; split
  · split <;> rfl
  · rfl

/-- R161 leaves the transport alone. -/
theorem applyPolicy_transport (s : State) : (applyPolicy s).transport = s.transport := by
  unfold applyPolicy; split
  · split <;> rfl
  · rfl

/-- Running on after a step that answers a next state. -/
theorem run_succ_of_step {M : Host.Core} {s u : M.State} (h : M.step s = .next u) (n : Nat) :
    M.run (n + 1) s = M.run n u := by
  rw [Host.Core.run, h]

@[simp] theorem crcBits_zero (p : Byte × Byte) : crcBits 0 p = p := rfl
@[simp] theorem crcBits_succ (n : Nat) (p : Byte × Byte) : crcBits (n + 1) p = crcBits n (crcBit p) := rfl
@[simp] theorem shiftBits_zero (x : Byte) : shiftBits 0 x = x := rfl
@[simp] theorem shiftBits_succ (n : Nat) (x : Byte) : shiftBits (n + 1) x = shiftBits n (shiftBit x) := rfl
@[simp] theorem pecFrom_nil (acc : Byte) : pecFrom acc [] = acc := rfl
@[simp] theorem pecFrom_cons (acc b : Byte) (bs : List Byte) :
    pecFrom acc (b :: bs) = pecFrom (crc8Step acc b) bs := rfl

end Sys2Proof.Machine
end

