-- ==== Sys2Proof/Laws/PerInstr.lean ====
section
/-!
SUPPORT. Laws/PerInstr.lean: the facts made per instruction. Family EncodeRow: the word of a command lies in its row of
the opcode table (R82).
-/

namespace Sys2Proof.Laws.EncodeRow

/-- The word the encoder gives the command has the row's fixed bits and 0 in every must-be-zero bit (R82). -/
def Statement (i : Instr) : Prop := encode i &&& rowMask i = rowMatch i

theorem init (addr7 : Addr7) (auto : BitVec 1) : Statement (.init addr7 auto) := by
  simp only [Statement, encode, packWord, rowMask, rowMatch]
  ext j hj
  interval_cases j <;> simp

theorem read16 (reg : Byte) : Statement (.read16 reg) := by
  simp only [Statement, encode, packWord, rowMask, rowMatch]
  ext j hj
  interval_cases j <;> simp

theorem write16 (reg : Byte) (val : Half) : Statement (.write16 reg val) := by
  simp only [Statement, encode, packWord, rowMask, rowMatch]
  ext j hj
  interval_cases j <;> simp

theorem pecclr : Statement .pecclr := by unfold Statement; decide

theorem pecbyte (byte : Byte) : Statement (.pecbyte byte) := by
  simp only [Statement, encode, packWord, rowMask, rowMatch]
  ext j hj
  interval_cases j <;> simp

theorem delay (ms : Half) : Statement (.delay ms) := by
  simp only [Statement, encode, packWord, rowMask, rowMatch]
  ext j hj
  interval_cases j <;> simp

end Sys2Proof.Laws.EncodeRow
end

