-- ==== Sys2Proof/Tests/Slice0.lean ====
section
/-!
SUPPORT. Tests/Slice0.lean: the model's own tests. Expected results are those of 95_test_vectors.md (named in each
comment) or worked by hand from the rule named; a `witness_…` theorem shows a concrete state and operands that meet the
hypotheses of the statement it names.
-/

namespace Sys2Proof.Tests

open Sys2Proof.Machine

/-! ## Helpers -/

/-- The next state of an outcome. -/
def stateOf : Host.Outcome State Fault Refusal → Option State
  | .next s => some s
  | .fault _ => none
  | .refused _ => none

/-- The refusal of an outcome. -/
def refusalOf : Host.Outcome State Fault Refusal → Option Refusal
  | .next _ => none
  | .fault _ => none
  | .refused r => some r

/-- A field of the next state. -/
def after {α : Type} (o : Host.Outcome State Fault Refusal) (f : State → α) : Option α := (stateOf o).map f

/-- OK, with the bytes a `Recv` delivers. -/
def okDraw (b0 b1 b2 : Byte) : Draw := { ok := true, b0 := b0, b1 := b1, b2 := b2 }

/-- FAIL. -/
def failDraw : Draw := { ok := false, b0 := 0x00#8, b1 := 0x00#8, b2 := 0x00#8 }

/-- The state after reset with the transport's next answers. -/
def withAnswers (ds : List Draw) : State := { State.reset with transport.answers := ds }

/-- The state after reset with one thing about to be done to the block. -/
def withStimulus (x : Stimulus) : State := { State.reset with host.pending := [x] }

/-- The state after reset with ACC preset. -/
def withAcc (v : Byte) : State := { State.reset with block.acc := v }

/-- A state in which a READ16 and a WRITE16 have succeeded (RD-1 and WR-1). -/
def usedState : State :=
  { State.reset with
    block.acc := 0xFB#8
    block.status := 0x11#5
    block.rdata := some 0x3AD3#16
    block.rpec := some 0x25#8
    block.txframe := some { reg := 0x24#8, lo := 0x34#8, hi := 0x12#8, pec := 0xFB#8 } }

/-- A state with a command program of two words, at index `k`. -/
def withProgram (w0 w1 : Word) (k : Nat) : State :=
  { State.reset with host.program := [w0, w1], host.index := k }

/-! ## Well-formedness: one ill-formed term per check (R87) -/

theorem test_wf_init_addr : (AsmCmd.init 0x80 0).wellFormed = false := by decide
theorem test_wf_init_auto : (AsmCmd.init 0x5A 2).wellFormed = false := by decide
theorem test_wf_read16_reg : (AsmCmd.read16 0x100).wellFormed = false := by decide
theorem test_wf_write16_reg : (AsmCmd.write16 0x100 0).wellFormed = false := by decide
theorem test_wf_write16_val : (AsmCmd.write16 0x24 0x10000).wellFormed = false := by decide
theorem test_wf_pecbyte : (AsmCmd.pecbyte 0x100).wellFormed = false := by decide
theorem test_wf_delay : (AsmCmd.delay 0x10000).wellFormed = false := by decide
theorem test_wf_pec : (AsmCmd.pec [0xB4, 0x100]).wellFormed = false := by decide
theorem test_wf_ewrite : (AsmCmd.ewrite 0x24 0x10000).wellFormed = false := by decide
theorem test_wf_good : (AsmCmd.write16 0xFF 0xFFFF).wellFormed = true := by decide

/-! ## Decoding: words written out from the encodings of R82, and L2.8 -/

theorem test_decode_init : decode 0b00010000010110100000000000000001#32 = .ok (.init 0x5A#7 1#1) := by decide
theorem test_decode_init_top : decode 0x107F0001#32 = .ok (.init 0x7F#7 1#1) := by decide
theorem test_decode_read16 : decode 0b00100000000001110000000000000000#32 = .ok (.read16 0x07#8) := by decide
theorem test_decode_write16 :
    decode 0b00110000001001000001001000110100#32 = .ok (.write16 0x24#8 0x1234#16) := by decide
theorem test_decode_pecclr : decode 0b01000000000000000000000000000000#32 = .ok .pecclr := by decide
theorem test_decode_pecbyte : decode 0b01010000101101000000000000000000#32 = .ok (.pecbyte 0xB4#8) := by decide
theorem test_decode_delay : decode 0b01100000000000001111111111111111#32 = .ok (.delay 0xFFFF#16) := by decide
theorem test_decode_zero_word : decode 0x00000000#32 = .error .reservedOp := by decide
theorem test_decode_op7 : decode 0x70000000#32 = .error .reservedOp := by decide
theorem test_decode_opF : decode 0xF0000000#32 = .error .reservedOp := by decide
theorem test_decode_z : decode 0x6F00000A#32 = .error .zNotZero := by decide
theorem test_decode_init_bit23 : decode 0x10DA0000#32 = .error .initBit23 := by decide
theorem test_decode_table_word : decodeTableWord 32 0x30FFFFFF = some (.write16 0xFF#8 0xFFFF#16) := by decide
theorem test_decode_table_illegal : decodeTableWord 32 0x40010000 = none := by decide

/-! ## The checksum engine (L2.1, L2.2) -/

theorem test_crc_step_b4 : crc8Step 0x00#8 0xB4#8 = 0x05#8 := by decide +kernel
theorem test_crc_bits_b4 : crcBits 6 (0x00#8, 0xB4#8) = (0xC3#8, 0x00#8) := by decide +kernel
theorem test_pec_write : pec [0xB4#8, 0x24#8, 0x34#8, 0x12#8] = 0xFB#8 := by decide +kernel
theorem test_crc_table_last : crcTable 0xFF#8 = 0xF3#8 := by decide +kernel

/-! ## Commands, at most two each -/

-- PC-1
theorem test_pecclr : after (exec .pecclr (withAcc 0x5F#8)) (fun t => (t.block.acc, statusWord t.block.status)) =
    some (0x00#8, 0x00000011#32) := by decide +kernel
-- PC-3: an illegal PECCLR leaves ACC
theorem test_pecclr_illegal :
    after (memWrite 0x00 4 0x40000001#32 (withAcc 0x5F#8)) (fun t => (t.block.acc, statusWord t.block.status)) =
      some (0x5F#8, 0x0000001A#32) := by decide +kernel
-- PB-8
theorem test_pecbyte : after (exec (.pecbyte 0x55#8) (withAcc 0xFB#8)) (fun t => t.block.acc) = some 0x43#8 := by
  decide +kernel
-- PB-6
theorem test_pecbyte_append :
    after (exec (.pecbyte 0xFB#8) (withAcc 0xFB#8)) (fun t => t.block.acc) = some 0x00#8 := by decide +kernel
-- RD-1
theorem test_read16 :
    after (exec (.read16 0x07#8) (withAnswers [okDraw 0x00#8 0x00#8 0x00#8, okDraw 0xD3#8 0x3A#8 0x25#8]))
        (fun t => (t.block.rdata, t.block.rpec, statusWord t.block.status, t.transport.trace)) =
      some
        (some 0x3AD3#16, some 0x25#8, 0x00000011#32,
          [{ call := .send1RS 0x5A#7 0x07#8, answer := .ok },
           { call := .recv 0x5A#7 3, answer := .bytes [0xD3#8, 0x3A#8, 0x25#8] }]) := by decide +kernel
-- RD-3: a failed receive keeps the older result
theorem test_read16_receive_fails :
    after (exec (.read16 0x07#8) { usedState with transport.answers := [okDraw 0#8 0#8 0#8, failDraw] })
        (fun t => (t.block.rdata, t.block.rpec, statusWord t.block.status)) =
      some (some 0x3AD3#16, some 0x25#8, 0x00000014#32) := by decide +kernel
-- WR-8: an address outside the map, and the byte order
theorem test_write16 :
    after (exec (.write16 0xFF#8 0xABCD#16) (withAnswers [okDraw 0#8 0#8 0#8]))
        (fun t => (t.block.acc, t.block.txframe, statusWord t.block.status, t.transport.trace)) =
      some
        (0xB7#8, some { reg := 0xFF#8, lo := 0xCD#8, hi := 0xAB#8, pec := 0xB7#8 }, 0x00000011#32,
          [{ call := .sendNStop 0x5A#7 [0xFF#8, 0xCD#8, 0xAB#8, 0xB7#8] 4, answer := .ok }]) := by decide +kernel
-- WR-11: ACC and TXFRAME stay written when the send fails
theorem test_write16_send_fails :
    after (exec (.write16 0x24#8 0x1234#16) (withAnswers [failDraw]))
        (fun t => (t.block.acc, t.block.txframe.map txframeWord, statusWord t.block.status)) =
      some (0xFB#8, some 0xFB123424#32, 0x00000016#32) := by decide +kernel
-- IN-3
theorem test_init_fails :
    after (exec (.init 0x5B#7 1#1) (withAnswers [failDraw]))
        (fun t => (configWord t.block.autoinit t.block.devaddr, statusWord t.block.status, t.transport.trace)) =
      some (0x0000015B#32, 0x00000018#32, [{ call := .initBus, answer := .fail }]) := by decide +kernel
-- IN-5: no call with AUTO = 0
theorem test_init_no_call :
    after (exec (.init 0x7F#7 0#1) (withAnswers [failDraw]))
        (fun t => (t.block.devaddr, statusWord t.block.status, t.transport.trace)) =
      some (0x7F#7, 0x00000011#32, []) := by decide +kernel
-- DL-1, and the answer that was waiting is still there (R59)
theorem test_delay :
    after (exec (.delay 10#16) (withAnswers [failDraw]))
        (fun t => (statusWord t.block.status, t.transport.trace, t.transport.answers)) =
      some (0x00000011#32, [{ call := .delay 10#16, answer := .noAnswer }], [failDraw]) := by decide +kernel

/-! ## The host window (L2.9) and the step -/

theorem test_read_status_at_reset : readAnswer 0x04 4 State.reset.block = .ok (.value 0x00000000#32) := by decide
theorem test_read_config_at_reset : readAnswer 0x10 4 State.reset.block = .ok (.value 0x0000005A#32) := by decide
theorem test_read_result_unwritten : readAnswer 0x08 4 State.reset.block = .ok .refused := by decide
theorem test_read_txframe_unwritten : readAnswer 0x14 4 State.reset.block = .ok .refused := by decide
theorem test_read_cmd : readAnswer 0x00 4 State.reset.block = .error .hostReadOfCmd := by decide
theorem test_read_misaligned : readAnswer 0x02 4 State.reset.block = .error .hostMisaligned := by decide
theorem test_read_narrow : readAnswer 0x04 2 State.reset.block = .error .hostWidth := by decide
theorem test_read_outside : readAnswer 0x18 4 State.reset.block = .error .hostUnmapped := by decide
theorem test_read_result : readAnswer 0x08 4 usedState.block = .ok (.value 0x00253AD3#32) := by decide
theorem test_read_txframe : readAnswer 0x14 4 usedState.block = .ok (.value 0xFB123424#32) := by decide
theorem test_read_pecacc : readAnswer 0x0C 4 usedState.block = .ok (.value 0x000000FB#32) := by decide
theorem test_write_status : refusalOf (memWrite 0x04 4 0#32 State.reset) = some .hostWriteOfReadOnly := by decide
theorem test_write_narrow : refusalOf (memWrite 0x00 2 0x4000#32 State.reset) = some .hostWidth := by decide
-- the word of a command, placed and stepped from reset (R53); the free answer of READ16 does not stop the step
theorem test_step_places_write16 :
    after (step (State.reset.withFetchWord 32 0x30241234)) (fun t => (t.block.acc, t.host.pending)) =
      some (0xFB#8, []) := by decide +kernel
theorem test_step_places_read16 :
    (stateOf (step (State.reset.withFetchWord 32 0x20070000))).isSome = true := by decide +kernel
theorem test_step_places_init :
    (stateOf (step (State.reset.withFetchWord 32 0x105B0001))).isSome = true := by decide +kernel
-- P6: an illegal word ends the program in failure at 0
theorem test_program_illegal :
    after (step (withProgram 0x00000000#32 0x40000000#32 0))
        (fun t => (statusWord t.block.status, t.host.programEnd, t.host.index)) =
      some (0x0000001A#32, some (.failure 0), 0) := by decide +kernel
theorem test_launch_two_hosts : refusalOf (launch [0x40000000#32] [[0x40000000#32]]) = some .concurrentHosts := by
  decide
theorem test_reset_event :
    after (applyStimulus .reset usedState) (fun t => (t.block, t.transport.trace)) = some (Block.reset, []) := by
  decide

/-! ## Hazards (R203, R204; programs P2 and P4) -/

/-- An EEPROM send with its answer. -/
def send (a : Addr7) (bytes : List Byte) (ans : Answer) : Event := { call := .sendNStop a bytes 4, answer := ans }

/-- A recorded wait. -/
def wait (ms : Half) : Event := { call := .delay ms, answer := .noAnswer }

theorem test_hazard_p2 :
    hazardFree
        [send 0x5A#7 [0x24#8, 0x00#8, 0x00#8, 0x28#8] .ok, wait 10#16,
         send 0x5A#7 [0x24#8, 0xFF#8, 0xFF#8, 0x0C#8] .ok, wait 10#16] = true := by decide
theorem test_hazard_p4 :
    eepromWaitOk
        [send 0x5B#7 [0x20#8, 0x00#8, 0x00#8, 0xAF#8] .ok, wait 5#16,
         { call := .send1RS 0x5B#7 0x20#8, answer := .ok },
         { call := .recv 0x5B#7 3, answer := .bytes [0x00#8, 0x00#8, 0x99#8] }] = false := by decide
theorem test_hazard_failed_erase :
    eraseBeforeWriteOk
        [send 0x5A#7 [0x24#8, 0x00#8, 0x00#8, 0x28#8] .fail, wait 10#16,
         send 0x5A#7 [0x24#8, 0xFF#8, 0xFF#8, 0x0C#8] .ok] = false := by decide
theorem test_hazard_ram_write : hazardFree [send 0x5A#7 [0x07#8, 0x01#8, 0x00#8, 0x00#8] .ok] = true := by decide

/-! ## The assembler notation (R87 to R89, L2.8) -/

theorem test_asm_name :
    assembleLine "WRITE16 %EMISSIVITY, 0x1234 ; comment" = .ok [0x30241234#32] := by decide +kernel
theorem test_asm_ewrite :
    assembleLine "EWRITE %EMISSIVITY, 65535" =
      .ok [0x30240000#32, 0x6000000A#32, 0x3024FFFF#32, 0x6000000A#32] := by decide +kernel
theorem test_asm_pec : assembleLine "PEC 0xB4, 0x24" = .ok [0x40000000#32, 0x50B40000#32, 0x50240000#32] := by
  decide +kernel
theorem test_asm_too_large : assembleLine "INIT 0x80, 0" = .error .operandDoesNotFit := by decide +kernel
theorem test_disassemble : disassemble 0x105A0001#32 = "INIT 0x5A, 0x1" := by decide +kernel
theorem test_disassemble_illegal : disassemble 0x10800000#32 = ".word 0x10800000" := by decide +kernel

/-! ## Witnesses: states and operands that meet the hypotheses of the statements -/

/-- A command that answers a next state, for every frame statement and every statement about `exec i s = .next t`:
InitFrame, Read16Frame, Write16Frame, ChecksumAndDelayFrame, OnlyTheNamedCommandsWriteEachRegister,
CallsAreIssuedInOrder. -/
theorem witness_frames :
    (∃ t, exec (.init 0x5B#7 1#1) State.reset = .next t) ∧ (∃ t, exec (.init 0x5B#7 0#1) State.reset = .next t) ∧
    (∃ t, exec (.read16 0x07#8) State.reset = .next t) ∧ (∃ t, exec (.write16 0x24#8 1#16) State.reset = .next t) ∧
    (∃ t, exec .pecclr State.reset = .next t) ∧ (∃ t, exec (.pecbyte 1#8) State.reset = .next t) ∧
    (∃ t, exec (.delay 0xFFFF#16) State.reset = .next t) :=
  ⟨⟨_, rfl⟩, ⟨_, rfl⟩, ⟨_, rfl⟩, ⟨_, rfl⟩, ⟨_, rfl⟩, ⟨_, rfl⟩, ⟨_, rfl⟩⟩

/-- OnlyTheNamedCommandsWriteEachRegister and CommandsReadOnlyDevaddrAndAcc: a READ16 that fails, and one that
succeeds. -/
theorem witness_read16_outcomes :
    after (exec (.read16 0xFF#8) (withAnswers [failDraw])) (fun t => statusOk t.block.status) = some false ∧
    after (exec (.read16 0xFF#8) (withAnswers [okDraw 0#8 0#8 0#8, okDraw 1#8 2#8 3#8]))
      (fun t => statusOk t.block.status) = some true := by decide +kernel

/-- DecodeThenEncode, DecodeReadsTheFields (each clause), at the ends of the operand ranges. -/
theorem witness_decodes :
    decode 0x107F0001#32 = .ok (.init 0x7F#7 1#1) ∧ decode 0x20FF0000#32 = .ok (.read16 0xFF#8) ∧
    decode 0x30FFFFFF#32 = .ok (.write16 0xFF#8 0xFFFF#16) ∧ decode 0x50FF0000#32 = .ok (.pecbyte 0xFF#8) ∧
    decode 0x6000FFFF#32 = .ok (.delay 0xFFFF#16) := by decide

/-- PecIsLinear. -/
theorem witness_equal_lengths : [0xB4#8, 0x24#8].length = [0x01#8, 0x02#8].length := by decide

/-- InitCompletes (its last clause) and InitBusFailure. -/
theorem witness_initBus_answers :
    ((withAnswers [okDraw 0#8 0#8 0#8]).drawFor .initBus).ok = true ∧
    ((withAnswers [failDraw]).drawFor .initBus).ok = false := by decide

/-- Read16Completes, Read16ReceiveFailure and Read16PointerFailure. -/
theorem witness_read16_answers :
    (((withAnswers [okDraw 0#8 0#8 0#8, okDraw 1#8 2#8 3#8]).drawFor (.send1RS 0x5A#7 0xFF#8)).ok = true ∧
      (((withAnswers [okDraw 0#8 0#8 0#8, okDraw 1#8 2#8 3#8]).send1RS 0x5A#7 0xFF#8).drawFor (.recv 0x5A#7 3)).ok =
        true) ∧
    (((withAnswers [okDraw 0#8 0#8 0#8, failDraw]).drawFor (.send1RS 0x5A#7 0xFF#8)).ok = true ∧
      (((withAnswers [okDraw 0#8 0#8 0#8, failDraw]).send1RS 0x5A#7 0xFF#8).drawFor (.recv 0x5A#7 3)).ok = false) ∧
    ((withAnswers [failDraw]).drawFor (.send1RS 0x5A#7 0xFF#8)).ok = false := by decide

/-- Write16Completes and Write16SendFailure (a given answer does not depend on the call, so any frame will do). -/
theorem witness_write16_answers (c : Call) :
    ((withAnswers [okDraw 0#8 0#8 0#8]).drawFor c).ok = true ∧ ((withAnswers [failDraw]).drawFor c).ok = false :=
  ⟨rfl, rfl⟩

/-- EveryWordCompletesWithAnOutcome and DisassemblyAssemblesBack (legal), IllegalWordWritesOnlyStatus (illegal). -/
theorem witness_legal_and_illegal : legalWord 0x6000FFFF#32 = true ∧ legalWord 0x60010000#32 = false := by decide

/-- CommandsReadOnlyDevaddrAndAcc: two states that differ in everything no command reads. -/
theorem witness_states_that_agree :
    let s' : State := { usedState with block.autoinit := 1#1, host.index := 7 }
    usedState.block.devaddr = s'.block.devaddr ∧ usedState.block.acc = s'.block.acc ∧
      usedState.transport = s'.transport ∧ (∃ t, exec (.read16 0x07#8) usedState = .next t) ∧
      (∃ t, exec (.read16 0x07#8) s' = .next t) ∧ usedState ≠ s' :=
  ⟨rfl, rfl, rfl, ⟨_, rfl⟩, ⟨_, rfl⟩, by decide⟩

/-- A state other than reset meets the invariant with RDATA, RPEC and TXFRAME written: ResultPacksRdataAndRpec (its
second clause), TxframePacksTheFrame (its first clause) and, with a step, StepKeepsInv. -/
theorem witness_inv_written :
    usedState.Inv ∧ usedState.block.rdata = some 0x3AD3#16 ∧ usedState.block.rpec = some 0x25#8 ∧
      usedState.block.txframe.isSome = true ∧ ∃ t, step usedState = .next t := by
  refine ⟨⟨⟨by decide, rfl, rfl, ?_⟩, rfl, rfl, by decide⟩, rfl, rfl, rfl, ⟨_, rfl⟩⟩
  intro f h
  cases h
  exact ⟨0x5A#7, by decide +kernel⟩

/-- A state that meets the invariant with all three UNWRITTEN: ResultPacksRdataAndRpec (its third clause) and
TxframePacksTheFrame (its second clause). -/
theorem witness_inv_unwritten :
    (withAcc 0x5F#8).Inv ∧ (withAcc 0x5F#8).block.rdata = none ∧ (withAcc 0x5F#8).block.txframe = none := by
  refine ⟨⟨⟨by decide, rfl, rfl, ?_⟩, rfl, rfl, by decide⟩, rfl, rfl⟩
  intro f h
  cases h

/-- OnlyTheListedHostAccessesAreAdmitted: reads of written and of UNWRITTEN content. -/
theorem witness_written_content :
    usedState.block.rdata.isSome = true ∧ usedState.block.rpec.isSome = true ∧ usedState.block.txframe.isSome = true ∧
      State.reset.block.rdata.isSome = false ∧ State.reset.block.txframe.isSome = false := by decide

-- R32: a refused read stops nothing and changes nothing of the block
theorem test_refused_read_goes_on :
    after (step (withStimulus (.read 0x08 4))) (fun t => (t.block, t.host.hostReads)) =
      some (Block.reset, [{ off := 0x08, answer := .refused }]) := by decide

/-- OnlyTheListedHostAccessesAreAdmitted (accesses just outside the window) and HostReadsHaveNoSideEffect (at the window's
last register). -/
theorem witness_host_accesses :
    (¬((0x18 : Nat) = 0x00 ∧ (4 : Nat) = 4)) ∧ (∀ t, memRead 0x18 4 usedState ≠ .next t) ∧ (∃ t, memRead 0x14 4 usedState = .next t) :=
  ⟨by decide, fun t h => Host.Outcome.noConfusion rfl rfl rfl (heq_of_eq h), ⟨_, rfl⟩⟩

/-- StepTakesTheNextStimulus (each clause) and ResetIssuesNoCall. -/
theorem witness_stimuli :
    ((withStimulus (.write 0x00 4 0x6000FFFF#32)).host.pending = .write 0x00 4 0x6000FFFF#32 :: [] ∧
      decode 0x6000FFFF#32 = .ok (.delay 0xFFFF#16)) ∧
    ((withStimulus (.write 0x00 4 0x60010000#32)).host.pending = .write 0x00 4 0x60010000#32 :: [] ∧
      legalWord 0x60010000#32 = false) ∧
    (withStimulus (.read 0x14 4)).host.pending = .read 0x14 4 :: [] ∧
    (withStimulus .reset).host.pending = .reset :: [] := by decide

/-- ProgramStepStopsAtFirstFailure: success with a word left, success at the last word, and failure. -/
theorem witness_program_steps :
    (let s := withProgram 0x40000000#32 0x40000000#32 0
     s.host.pending = [] ∧ s.host.programEnd = none ∧ s.host.program[s.host.index]? = some 0x40000000#32 ∧
       after (runWord 0x40000000#32 s) (fun t => statusOk t.block.status) = some true ∧
       s.host.index + 1 < s.host.program.length) ∧
    (let s := withProgram 0x40000000#32 0x40000000#32 1
     s.host.program[s.host.index]? = some 0x40000000#32 ∧ s.host.index + 1 = s.host.program.length) ∧
    (let s := withProgram 0x00000000#32 0x40000000#32 0
     s.host.program[s.host.index]? = some 0x00000000#32 ∧
       after (runWord 0x00000000#32 s) (fun t => statusOk t.block.status) = some false) := by decide +kernel

/-- EndedProgramIssuesNothing (each way) and EveryCommandProgramEnds. -/
theorem witness_ended_programs :
    (let s : State := { withProgram 0#32 0#32 0 with host.programEnd := some (.failure 0) }
     s.host.pending = [] ∧ s.host.programEnd.isSome = true) ∧
    (let s := withProgram 0#32 0#32 2
     s.host.pending = [] ∧ s.host.program.length ≤ s.host.index) := by decide

/-- ResetSetsEveryElement: its second case, the reset event. -/
theorem witness_reset_event : ∃ s : State, s = usedState.assertReset ∧ s ≠ usedState := ⟨_, rfl, by decide⟩

/-- AssemblerChecksAndExpands: the operand one above its field, in each clause (0x80 for addr7, 2 for auto, 0x100 for reg
and byte, 0x10000 for val and ms). -/
theorem witness_oversized :
    (AsmCmd.delay 0x10000).wellFormed = false ∧ 2 ^ 7 ≤ 0x80 ∧ 2 ≤ 2 ∧ 2 ^ 8 ≤ 0x100 ∧ 2 ^ 16 ≤ 0x10000 ∧
      ∃ b ∈ [0xFF, 0x100], 2 ^ 8 ≤ b := by decide

/-- SensorMapIsTheSpecs: two names with one address are one name, and a spelling that is read. -/
theorem witness_sensor_names :
    sensorAddress .id4 = sensorAddress .id4 ∧ sensorNamed ['I', 'D', '4'] = some .id4 := by decide

/-- Read16Frame: a pointer phase answered OK and one answered FAIL. -/
theorem witness_pointer_phase :
    ((withAnswers [okDraw 0#8 0#8 0#8]).drawFor (.send1RS 0x7F#7 0xFF#8)).ok = true ∧
      ((withAnswers [failDraw]).drawFor (.send1RS 0x7F#7 0xFF#8)).ok = false := by decide

/-- EepromWaitMeansTenMilliseconds and EraseComesBeforeEveryValueWrite: a trace with an EEPROM value write and a later
call to the same address. -/
theorem witness_eeprom_events :
    let e := send 0x5A#7 [0x3F#8, 0x01#8, 0x00#8, 0x00#8] .fail
    eepromSendTo e.call = some 0x5A#7 ∧ eepromValueWrite e.call = some (0x5A#7, 0x3F#8) ∧
      busAddress (Call.recv 0x5A#7 3) = some 0x5A#7 ∧ busAddress (wait 9#16).call ≠ some 0x5A#7 ∧
      isErase 0x5A#7 0x3F#8 (send 0x5A#7 [0x3F#8, 0x00#8, 0x00#8, 0x00#8] .ok) = true := by decide

/-- EwriteIsHazardFree. -/
theorem witness_erase_answered_ok :
    (withAnswers [okDraw 0#8 0#8 0#8]).transport.trace = [] ∧
      ((withAnswers [okDraw 0#8 0#8 0#8]).drawFor
        (.sendNStop 0x5A#7 (frameBytes (writeFrame 0x5A#7 0x24#8 0#16)) 4)).ok = true := ⟨rfl, rfl⟩

end Sys2Proof.Tests
end

/-!
PROOF. The checksum as a polynomial remainder (R1, R100 to R102). One iteration of the loop of R100 multiplies the sum of
its two registers by X in the residue ring (ZMod 2)[X] / (x⁸+x²+x¹+1), so a byte multiplies the accumulator by X⁸.
-/

namespace Sys2Proof.Machine

/-! ## The bit loop is `shift8` on the XOR of its registers -/

/-- The test of R100 reads bit 7. -/
theorem and_0x80_eq_zero_iff (x : Byte) : x &&& 0x80#8 = 0#8 ↔ x.msb = false := by
  rw [show 0x80#8 = BitVec.twoPow 8 7 from rfl, BitVec.and_twoPow, BitVec.msb_eq_getLsbD_last]
  cases x.getLsbD 7 <;> decide

/-- One iteration of R100 acts on the XOR of its two registers as one iteration of `shift8` (R101). -/
theorem crcBit_xor (p : Byte × Byte) : (crcBit p).1 ^^^ (crcBit p).2 = shiftBit (p.1 ^^^ p.2) := by
  simp only [crcBit, shiftBit, and_0x80_eq_zero_iff, BitVec.shiftLeft_xor_distrib]
  cases (p.1 ^^^ p.2).msb
  · rfl
  · simp only [reduceCtorEq, if_false, if_true]; ac_rfl

theorem crcBits_xor (n : Nat) (p : Byte × Byte) :
    (crcBits n p).1 ^^^ (crcBits n p).2 = shiftBits n (p.1 ^^^ p.2) := by
  induction n generalizing p with
  | zero => rfl
  | succ n ih => rw [crcBits_succ, shiftBits_succ, ih, crcBit_xor]

theorem crcBits_snd (n : Nat) (p : Byte × Byte) : (crcBits n p).2 = p.2 <<< n := by
  induction n generalizing p with
  | zero => simp
  | succ n ih => rw [crcBits_succ, ih, crcBit, ← BitVec.shiftLeft_add, Nat.add_comm]

/-- The XOR-first form of the step (R101): after eight iterations the data register has run out. -/
theorem crc8Step_eq_shift8 (acc b : Byte) : crc8Step acc b = shift8 (acc ^^^ b) := by
  have hdata : (crcBits 8 (acc, b)).2 = 0#8 := by
    rw [crcBits_snd, BitVec.shiftLeft_eq_zero (Nat.le_refl 8)]
  rw [shift8, ← crcBits_xor 8 (acc, b), hdata, BitVec.xor_zero, crc8Step]

/-! ## Bytes and messages as polynomials -/

section Remainder

open Polynomial

/-- A byte as a polynomial over the field of two elements, bit i the coefficient of X^i. -/
noncomputable def bytePoly (b : Byte) : (ZMod 2)[X] :=
  ∑ i ∈ Finset.range 8, if b.getLsbD i then X ^ i else 0

/-- The message as a polynomial, continued from `m`: most significant byte first. -/
noncomputable def messagePoly (m : (ZMod 2)[X]) (bytes : List Byte) : (ZMod 2)[X] :=
  bytes.foldl (fun m b => m * X ^ 8 + bytePoly b) m

/-- The divisor x⁸+x²+x¹+1 (R1). -/
noncomputable def crcDivisor : (ZMod 2)[X] := X ^ 8 + X ^ 2 + X + 1

theorem messagePoly_cons (m : (ZMod 2)[X]) (b : Byte) (bytes : List Byte) :
    messagePoly m (b :: bytes) = messagePoly (m * X ^ 8 + bytePoly b) bytes := rfl

theorem bytePoly_zero : bytePoly 0#8 = 0 := by simp [bytePoly]

theorem bytePoly_xor (a b : Byte) : bytePoly (a ^^^ b) = bytePoly a + bytePoly b := by
  simp only [bytePoly, ← Finset.sum_add_distrib, BitVec.getLsbD_xor]
  refine Finset.sum_congr rfl fun i _ => ?_
  cases a.getLsbD i <;> cases b.getLsbD i <;> simp [CharTwo.add_self_eq_zero]

theorem bytePoly_crcPoly : bytePoly crcPoly = 1 + X + X ^ 2 := by
  simp [bytePoly, crcPoly, Finset.sum_range_succ]

theorem getLsbD_shiftLeft_one_succ (x : Byte) {i : Nat} (hi : i < 7) :
    (x <<< 1).getLsbD (i + 1) = x.getLsbD i := by
  simp; omega

/-- A left shift multiplies by X; the bit it drops is the term X⁸. -/
theorem X_mul_bytePoly (x : Byte) :
    X * bytePoly x = bytePoly (x <<< 1) + if x.msb then X ^ 8 else 0 := by
  have hshift : bytePoly (x <<< 1) = ∑ i ∈ Finset.range 7, if x.getLsbD i then X ^ (i + 1) else 0 := by
    have hlow : (x <<< 1).getLsbD 0 = false := by simp
    rw [bytePoly, Finset.sum_range_succ', hlow, if_neg Bool.false_ne_true, add_zero]
    refine Finset.sum_congr rfl fun i hi => ?_
    rw [getLsbD_shiftLeft_one_succ x (Finset.mem_range.1 hi)]
  rw [hshift, bytePoly, Finset.sum_range_succ, mul_add, Finset.mul_sum, BitVec.msb_eq_getLsbD_last]
  simp only [mul_ite, mul_zero, ← pow_succ']

theorem degree_bytePoly_lt (b : Byte) : (bytePoly b).degree < (8 : ℕ) := by
  rw [← mem_degreeLT]
  refine Submodule.sum_mem _ fun i hi => ?_
  split
  · rw [mem_degreeLT, degree_X_pow]
    exact_mod_cast Finset.mem_range.1 hi
  · exact Submodule.zero_mem _

theorem degree_crcDivisor : crcDivisor.degree = (8 : ℕ) := by
  unfold crcDivisor; compute_degree!

theorem monic_crcDivisor : crcDivisor.Monic := by
  unfold crcDivisor; monicity!

/-! ## The loop computes in the residue ring -/

/-- One iteration of `shift8` multiplies by X modulo the divisor: XOR with `crcPoly` takes the dropped X⁸ away. -/
theorem mk_bytePoly_shiftBit (x : Byte) :
    AdjoinRoot.mk crcDivisor (bytePoly (shiftBit x)) = AdjoinRoot.mk crcDivisor (X * bytePoly x) := by
  rw [AdjoinRoot.mk_eq_mk, X_mul_bytePoly, shiftBit]
  cases x.msb
  · simp
  · have hsub : bytePoly ((x <<< 1) ^^^ crcPoly) - (bytePoly (x <<< 1) + X ^ 8) = crcDivisor := by
      rw [bytePoly_xor, bytePoly_crcPoly, crcDivisor]
      linear_combination -X ^ 8 * CharTwo.two_eq_zero (R := (ZMod 2)[X])
    simp [hsub]

theorem mk_bytePoly_shiftBits (n : Nat) (x : Byte) :
    AdjoinRoot.mk crcDivisor (bytePoly (shiftBits n x)) = AdjoinRoot.mk crcDivisor (X ^ n * bytePoly x) := by
  induction n generalizing x with
  | zero => simp
  | succ n ih => rw [shiftBits_succ, ih, pow_succ, mul_assoc, map_mul, mk_bytePoly_shiftBit, ← map_mul]

/-- One byte of the message: the accumulator and the byte are added, then multiplied by X⁸. -/
theorem mk_bytePoly_crc8Step (acc b : Byte) :
    AdjoinRoot.mk crcDivisor (bytePoly (crc8Step acc b)) =
      AdjoinRoot.mk crcDivisor (X ^ 8 * (bytePoly acc + bytePoly b)) := by
  rw [crc8Step_eq_shift8, shift8, mk_bytePoly_shiftBits, bytePoly_xor]

/-- The invariant of the fold: an accumulator congruent to the message so far times X⁸ stays so. -/
theorem mk_messagePoly_mul_X_pow (bytes : List Byte) (m : (ZMod 2)[X]) (acc : Byte)
    (h : AdjoinRoot.mk crcDivisor (m * X ^ 8) = AdjoinRoot.mk crcDivisor (bytePoly acc)) :
    AdjoinRoot.mk crcDivisor (messagePoly m bytes * X ^ 8) =
      AdjoinRoot.mk crcDivisor (bytePoly (pecFrom acc bytes)) := by
  induction bytes generalizing m acc with
  | nil => exact h
  | cons b bytes ih =>
    rw [messagePoly_cons, pecFrom_cons]
    apply ih
    rw [mk_bytePoly_crc8Step, mul_comm, map_mul, map_add, h, ← map_add, ← map_mul]

/-- Settles O12: the CRC is congruent to the message times X⁸, and of degree below the divisor's. -/
theorem pecIsTheRemainder : Obligations.PecIsTheRemainder := by
  intro bytes
  have hcongr := mk_messagePoly_mul_X_pow bytes 0 0x00#8 (by rw [zero_mul, bytePoly_zero])
  calc messagePoly 0 bytes * X ^ 8 %ₘ crcDivisor
      = bytePoly (pec bytes) %ₘ crcDivisor := modByMonic_eq_of_dvd_sub monic_crcDivisor (AdjoinRoot.mk_eq_mk.1 hcongr)
    _ = bytePoly (pec bytes) :=
      (modByMonic_eq_self_iff monic_crcDivisor).2 (degree_crcDivisor ▸ degree_bytePoly_lt _)

end Remainder

end Sys2Proof.Machine

/-!
PROOF. What a command can do (R110 to R151), said once as one inversion lemma over the named updates of Laws/State; from
it the statements about all commands (R20 to R31) and the invariant `State.Inv` kept by every step; and the read of
STATUS (R26, R51).
-/

namespace Sys2Proof.Machine

/-! ## STATUS at the end of a command -/

/-- What `State.endOn` writes: STATUS after a command whose last call was answered `ok` in phase `c` (R172, R174). -/
def endStatus (ok : Bool) (c : BusPhase) : BitVec 5 := if ok then statusSuccess else statusFailure (busCause c)

@[simp] theorem statusOk_endStatus (ok : Bool) (c : BusPhase) : statusOk (endStatus ok c) = ok := by
  cases ok <;> cases c <;> rfl

@[simp] theorem statusLegal_endStatus (ok : Bool) (c : BusPhase) : statusLegal (endStatus ok c) = true := by
  cases ok <;> cases c <;> decide

theorem statusLegal_illegal : statusLegal (statusFailure illegalCause) = true := by decide

@[simp] theorem statusOk_statusSuccess : statusOk statusSuccess = true := rfl

@[simp] theorem statusLegal_statusSuccess : statusLegal statusSuccess = true := by decide

/-! ## The calls of READ16 and WRITE16, and the states around them -/

/-- The call of READ16's pointer phase (R120). -/
def State.pointerCall (s : State) (r : Byte) : Call := .send1RS s.block.devaddr r

/-- The call of READ16's receive phase (R63, R120). -/
def State.receiveCall (s : State) : Call := .recv s.block.devaddr 3

/-- The draw of READ16's receive phase, after its pointer phase. -/
def State.receiveDraw (s : State) (r : Byte) : Draw := (s.issue (s.pointerCall r)).drawFor s.receiveCall

/-- READ16's state after both phases and before its end: BUSHELD has risen and fallen (R31). -/
def State.received (s : State) (r : Byte) : State :=
  ((s.issue (s.pointerCall r)).issue s.receiveCall).setBusheld false

/-- The call of WRITE16 (R130). -/
def State.frameCall (s : State) (r : Byte) (v : Half) : Call :=
  .sendNStop s.block.devaddr (frameBytes (writeFrame s.block.devaddr r v)) 4

/-- WRITE16's state before its end (R130). -/
def State.frameSent (s : State) (r : Byte) (v : Half) : State :=
  (write16Build r v s).issue (s.frameCall r v)

@[simp] theorem State.received_block (s : State) (r : Byte) :
    (s.received r).block = { s.block with busheld := false } := rfl
@[simp] theorem State.received_transport (s : State) (r : Byte) :
    (s.received r).transport = ((s.issue (s.pointerCall r)).issue s.receiveCall).transport := rfl
@[simp] theorem State.received_host (s : State) (r : Byte) : (s.received r).host = s.host := rfl

@[simp] theorem State.frameSent_block (s : State) (r : Byte) (v : Half) :
    (s.frameSent r v).block =
      { s.block with
        acc := writePec s.block.devaddr r v
        txframe := some (writeFrame s.block.devaddr r v) } := rfl
@[simp] theorem State.frameSent_transport (s : State) (r : Byte) (v : Half) :
    (s.frameSent r v).transport = (s.issue (s.frameCall r v)).transport := rfl
@[simp] theorem State.frameSent_host (s : State) (r : Byte) (v : Half) : (s.frameSent r v).host = s.host := rfl

theorem State.send1RS_eq_setBusheld {s : State} {a : Addr7} {b : Byte} {ok : Bool}
    (h : (s.drawFor (.send1RS a b)).ok = ok) : s.send1RS a b = (s.issue (.send1RS a b)).setBusheld ok := by
  rw [State.send1RS, h]

/-! ## Everything a command can do -/

/-- The runs of a command from `s`, each with the state it leaves. `exec_next_iff` ties them to `exec`. -/
inductive CommandRun (s : State) : Instr → State → Prop where
  | initQuiet (a : Addr7) (u : BitVec 1) (hu : u ≠ 1#1) :
    CommandRun s (.init a u) ((s.setDevice a u).setStatus statusSuccess)
  | initBus (a : Addr7) (u : BitVec 1) (hu : u = 1#1) :
    CommandRun s (.init a u)
      (((s.setDevice a u).issue .initBus).setStatus (endStatus (s.drawFor .initBus).ok .businit))
  | readPtrFail (r : Byte) (hp : (s.drawFor (s.pointerCall r)).ok = false) :
    CommandRun s (.read16 r) (((s.issue (s.pointerCall r)).setBusheld false).setStatus (endStatus false .ptr))
  | readRecvFail (r : Byte) (hp : (s.drawFor (s.pointerCall r)).ok = true) (hr : (s.receiveDraw r).ok = false) :
    CommandRun s (.read16 r) ((s.received r).setStatus (endStatus false .recv))
  | readOk (r : Byte) (hp : (s.drawFor (s.pointerCall r)).ok = true) (hr : (s.receiveDraw r).ok = true) :
    CommandRun s (.read16 r)
      (((s.received r).setResult (assemble16 (s.receiveDraw r).b0 (s.receiveDraw r).b1)
        (s.receiveDraw r).b2).setStatus statusSuccess)
  | write (r : Byte) (v : Half) :
    CommandRun s (.write16 r v)
      ((s.frameSent r v).setStatus (endStatus (s.drawFor (s.frameCall r v)).ok .send))
  | pecclr : CommandRun s .pecclr ((s.setAcc 0x00#8).setStatus statusSuccess)
  | pecbyte (b : Byte) : CommandRun s (.pecbyte b) ((s.setAcc (crc8Step s.block.acc b)).setStatus statusSuccess)
  | delay (ms : Half) : CommandRun s (.delay ms) ((s.delayCall ms).setStatus statusSuccess)

/-- A run leaves what `exec` answers. -/
theorem CommandRun.exec_eq {i : Instr} {s t : State} (h : CommandRun s i t) : exec i s = .next t := by
  cases h with
  | initQuiet a u hu => exact congrArg _ (if_neg hu)
  | initBus a u hu => exact congrArg _ (if_pos hu)
  | readPtrFail r hp =>
    calc exec (.read16 r) s = .next ((s.send1RS s.block.devaddr r).raiseBusFailure .ptr) :=
          congrArg _ (if_neg (ne_true_of_eq_false hp))
      _ = _ := by rw [State.send1RS_eq_setBusheld hp]; rfl
  | readRecvFail r hp hr =>
    calc exec (.read16 r) s = .next (read16Receive (s.send1RS s.block.devaddr r)) := congrArg _ (if_pos hp)
      _ = _ := congrArg _ (if_neg (ne_true_of_eq_false hr))
  | readOk r hp hr =>
    calc exec (.read16 r) s = .next (read16Receive (s.send1RS s.block.devaddr r)) := congrArg _ (if_pos hp)
      _ = _ := congrArg _ (if_pos hr)
  | write | pecclr | pecbyte | delay => rfl

/-- Every command has a run from every state. -/
theorem exists_commandRun (i : Instr) (s : State) : ∃ t, CommandRun s i t := by
  cases i with
  | init a u =>
    by_cases hu : u = 1#1
    · exact ⟨_, .initBus a u hu⟩
    · exact ⟨_, .initQuiet a u hu⟩
  | read16 r =>
    cases hp : (s.drawFor (s.pointerCall r)).ok
    · exact ⟨_, .readPtrFail r hp⟩
    · cases hr : (s.receiveDraw r).ok
      · exact ⟨_, .readRecvFail r hp hr⟩
      · exact ⟨_, .readOk r hp hr⟩
  | write16 r v => exact ⟨_, .write r v⟩
  | pecclr => exact ⟨_, .pecclr⟩
  | pecbyte b => exact ⟨_, .pecbyte b⟩
  | delay ms => exact ⟨_, .delay ms⟩

theorem exec_next_iff {i : Instr} {s t : State} : exec i s = .next t ↔ CommandRun s i t := by
  refine ⟨fun h => ?_, CommandRun.exec_eq⟩
  obtain ⟨t', hrun⟩ := exists_commandRun i s
  cases hrun.exec_eq.symm.trans h
  exact hrun

/-! ## What a command leaves unchanged, and what it writes -/

theorem CommandRun.host_eq {i : Instr} {s t : State} (h : CommandRun s i t) : t.host = s.host := by
  cases h <;> simp

/-- Settles O32: each run shows which registers it writes. -/
theorem onlyTheNamedCommandsWriteEachRegister : Obligations.OnlyTheNamedCommandsWriteEachRegister := by
  intro i s t h
  cases exec_next_iff.1 h <;> simp

theorem CommandRun.busheld_of_ne_read16 {i : Instr} {s t : State} (h : CommandRun s i t) (hi : ∀ r, i ≠ .read16 r) :
    t.block.busheld = s.block.busheld := by
  cases h with
  | readPtrFail r | readRecvFail r | readOk r => exact absurd rfl (hi r)
  | initQuiet | initBus | write | pecclr | pecbyte | delay => simp

theorem CommandRun.read16_busheld {r : Byte} {s t : State} (h : CommandRun s (.read16 r) t) :
    t.block.busheld = false := by
  cases h <;> simp

theorem CommandRun.init_autoinit {a : Addr7} {u : BitVec 1} {s t : State} (h : CommandRun s (.init a u) t) :
    t.block.autoinit = u := by
  cases h <;> simp

theorem CommandRun.write16_txframe {r : Byte} {v : Half} {s t : State} (h : CommandRun s (.write16 r v) t) :
    t.block.txframe = some (writeFrame s.block.devaddr r v) := by
  cases h; simp

theorem CommandRun.read16_result {r : Byte} {s t : State} (h : CommandRun s (.read16 r) t)
    (hok : statusOk t.block.status = true) :
    t.block.rdata = some (assemble16 (s.receiveDraw r).b0 (s.receiveDraw r).b1) ∧
      t.block.rpec = some (s.receiveDraw r).b2 := by
  cases h with
  | readPtrFail | readRecvFail => simp at hok
  | readOk => simp

/-! ## Two runs from states that agree on what a command reads (R20, R71) -/

/-- The states agree on DEVADDR, ACC and the transport. -/
structure SameInputs (s s' : State) : Prop where
  devaddr : s.block.devaddr = s'.block.devaddr
  acc : s.block.acc = s'.block.acc
  transport : s.transport = s'.transport

/-- Issuing a call depends on the transport alone (log entry 2). -/
theorem issue_transport_congr {s s' : State} (h : s.transport = s'.transport) (c : Call) :
    (s.issue c).transport = (s'.issue c).transport := by
  simp only [State.issue, drawFor_congr h, h]

theorem delayCall_transport_congr {s s' : State} (h : s.transport = s'.transport) (ms : Half) :
    (s.delayCall ms).transport = (s'.delayCall ms).transport := by
  simp only [State.delayCall, h]

section SameInputs

variable {s s' : State} (h : SameInputs s s')
include h

theorem SameInputs.pointerCall_eq (r : Byte) : s.pointerCall r = s'.pointerCall r := by
  rw [State.pointerCall, State.pointerCall, h.devaddr]

theorem SameInputs.receiveCall_eq : s.receiveCall = s'.receiveCall := by
  rw [State.receiveCall, State.receiveCall, h.devaddr]

theorem SameInputs.receiveDraw_eq (r : Byte) : s.receiveDraw r = s'.receiveDraw r := by
  rw [State.receiveDraw, State.receiveDraw, h.pointerCall_eq, h.receiveCall_eq]
  exact drawFor_congr (issue_transport_congr h.transport _) _

theorem SameInputs.frameCall_eq (r : Byte) (v : Half) : s.frameCall r v = s'.frameCall r v := by
  rw [State.frameCall, State.frameCall, h.devaddr]

theorem SameInputs.received_transport_eq (r : Byte) : (s.received r).transport = (s'.received r).transport := by
  simp only [State.received_transport, h.pointerCall_eq, h.receiveCall_eq]
  exact issue_transport_congr (issue_transport_congr h.transport _) _

end SameInputs

/-- A run from one state is matched by a run from the other, with the same answers. -/
theorem CommandRun.exists_matching {i : Instr} {s s' t : State} (hrun : CommandRun s i t) (h : SameInputs s s') :
    ∃ t', CommandRun s' i t' ∧ SameInputs t t' ∧ t.block.status = t'.block.status := by
  have hdraw := drawFor_congr h.transport
  cases hrun with
  | initQuiet a u hu => exact ⟨_, .initQuiet a u hu, ⟨by simp, by simp [h.acc], by simp [h.transport]⟩, by simp⟩
  | initBus a u hu =>
    refine ⟨_, .initBus a u hu, ⟨by simp, by simp [h.acc], ?_⟩, by simp [hdraw]⟩
    exact issue_transport_congr h.transport _
  | readPtrFail r hp =>
    rw [hdraw, h.pointerCall_eq] at hp
    refine ⟨_, .readPtrFail r hp, ⟨by simp [h.devaddr], by simp [h.acc], ?_⟩, by simp⟩
    simpa [h.pointerCall_eq] using issue_transport_congr h.transport _
  | readRecvFail r hp hr =>
    rw [hdraw, h.pointerCall_eq] at hp
    rw [h.receiveDraw_eq] at hr
    exact ⟨_, .readRecvFail r hp hr, ⟨by simp [h.devaddr], by simp [h.acc], h.received_transport_eq r⟩, by simp⟩
  | readOk r hp hr =>
    rw [hdraw, h.pointerCall_eq] at hp
    rw [h.receiveDraw_eq] at hr
    exact ⟨_, .readOk r hp hr, ⟨by simp [h.devaddr], by simp [h.acc], h.received_transport_eq r⟩, by simp⟩
  | write r v =>
    refine ⟨_, .write r v, ⟨by simp [h.devaddr], by simp [h.devaddr], ?_⟩, by simp [hdraw, h.frameCall_eq]⟩
    simpa [h.frameCall_eq] using issue_transport_congr h.transport _
  | pecclr => exact ⟨_, .pecclr, ⟨by simp [h.devaddr], by simp, by simp [h.transport]⟩, by simp⟩
  | pecbyte b => exact ⟨_, .pecbyte b, ⟨by simp [h.devaddr], by simp [h.acc], by simp [h.transport]⟩, by simp⟩
  | delay ms =>
    refine ⟨_, .delay ms, ⟨by simp [h.devaddr], by simp [h.acc], ?_⟩, by simp⟩
    exact delayCall_transport_congr h.transport ms

/-- Settles O36: the second run is the one that matches the first; what neither writes stays by O32. -/
theorem commandsReadOnlyDevaddrAndAcc : Obligations.CommandsReadOnlyDevaddrAndAcc := by
  intro i s s' t t' hdev hacc htr hexec hexec'
  have hin : SameInputs s s' := ⟨hdev, hacc, htr⟩
  have hrun := exec_next_iff.1 hexec
  have hrun' := exec_next_iff.1 hexec'
  obtain ⟨u, hu, hout, hst⟩ := hrun.exists_matching hin
  cases hu.exec_eq.symm.trans hexec'
  obtain ⟨hauto, -, hres, htx⟩ := onlyTheNamedCommandsWriteEachRegister i s t hexec
  obtain ⟨hauto', -, hres', htx'⟩ := onlyTheNamedCommandsWriteEachRegister i s' t' hexec'
  refine ⟨⟨hout.devaddr, hout.acc, hst, hout.transport, hrun.host_eq, hrun'.host_eq⟩, ?_,
    fun hi => ⟨(hauto hi).2, (hauto' hi).2⟩, ?_,
    fun hi => ⟨hrun.busheld_of_ne_read16 hi, hrun'.busheld_of_ne_read16 hi⟩, ?_, ?_, ?_,
    fun hi => ⟨htx hi, htx' hi⟩⟩
  · rintro ⟨a, u, rfl⟩
    rw [hrun.init_autoinit, hrun'.init_autoinit]
  · rintro ⟨r, rfl⟩
    rw [hrun.read16_busheld, hrun'.read16_busheld]
  · rintro ⟨r, rfl⟩ hok
    obtain ⟨hv, hp⟩ := hrun.read16_result hok
    obtain ⟨hv', hp'⟩ := hrun'.read16_result (hst ▸ hok)
    rw [hv, hp, hv', hp', hin.receiveDraw_eq]
    exact ⟨rfl, rfl⟩
  · intro hkeep
    obtain ⟨hv, hp⟩ := hres hkeep
    obtain ⟨hv', hp'⟩ := hres' (hst ▸ hkeep)
    exact ⟨hv, hv', hp, hp'⟩
  · rintro ⟨r, v, rfl⟩
    rw [hrun.write16_txframe, hrun'.write16_txframe, hdev]

/-! ## Host reads -/

/-- Settles O38: the read returns `statusWord`, which extends STATUS by zeros. -/
theorem statusReadsItsFields : Obligations.StatusReadsItsFields := by
  intro s
  refine ⟨statusWord s.block.status, memRead_status s, by simp [statusWord, statusOk], ?_,
    by simp [statusWord, statusValid], ?_⟩
  · ext j hj
    simp [statusWord, statusCause]
    omega
  · ext j hj
    simp [statusWord]

/-! The registers with reserved bits are read with 0 there (R26, R55, R56, R57). -/
theorem statusWord_reserved (st : BitVec 5) : statusWord st &&& 0xFFFFFFE0#32 = 0#32 := by
  revert st; decide

theorem pecaccWord_reserved (acc : Byte) : pecaccWord acc &&& 0xFFFFFF00#32 = 0#32 := by
  calc (0#24 ++ acc) &&& (0xFFFFFF#24 ++ 0#8) = (0#24 &&& 0xFFFFFF#24) ++ (acc &&& 0#8) := BitVec.and_append
    _ = 0#24 ++ 0#8 := by simp

theorem resultWord_reserved (v : Half) (p : Byte) : resultWord v p &&& 0xFF000000#32 = 0#32 := by
  calc (0#8 ++ p ++ v) &&& (0xFF#8 ++ 0#8 ++ 0#16) = (0#8 &&& 0xFF#8) ++ (p &&& 0#8) ++ (v &&& 0#16) := by
        rw [BitVec.and_append, BitVec.and_append]
    _ = 0#8 ++ 0#8 ++ 0#16 := by rw [BitVec.zero_and, BitVec.and_zero, BitVec.and_zero]

theorem configWord_reserved (u : BitVec 1) (a : Addr7) : configWord u a &&& 0xFFFFFE80#32 = 0#32 := by
  calc (0#23 ++ u ++ 0#1 ++ a) &&& (0x7FFFFF#23 ++ 0#1 ++ 1#1 ++ 0#7)
      = (0#23 &&& 0x7FFFFF#23) ++ (u &&& 0#1) ++ (0#1 &&& 1#1) ++ (a &&& 0#7) := by
        rw [BitVec.and_append, BitVec.and_append, BitVec.and_append]
    _ = 0#23 ++ 0#1 ++ 0#1 ++ 0#7 := by simp only [BitVec.zero_and, BitVec.and_zero]

theorem readAnswer_ok_iff {off width : Nat} {b : Block} {a : ReadAnswer} :
    readAnswer off width b = .ok a ↔ ∃ r, windowAccess off width = .ok r ∧ windowAnswer b r = .ok a := by
  unfold readAnswer
  cases windowAccess off width <;> simp

/-- The byte offset of a window register (R51); `windowAt_eq_some_iff` ties it to `windowAt`. -/
def WindowReg.offset : WindowReg → Nat
  | .cmd => 0x00
  | .status => 0x04
  | .result => 0x08
  | .pecacc => 0x0C
  | .config => 0x10
  | .txframe => 0x14

theorem windowAt_eq_some_iff {off : Nat} {r : WindowReg} : windowAt off = some r ↔ off = r.offset := by
  constructor
  · intro h
    unfold windowAt at h
    repeat' split at h
    all_goals cases h <;> assumption
  · rintro rfl
    cases r <;> rfl

theorem resultAnswer_admitted (b : Block) : readAdmitted { off := 0x08, answer := resultAnswer b } = true := by
  cases hv : b.rdata with
  | none => rw [resultAnswer_of_unwritten hv]; rfl
  | some v =>
    cases hp : b.rpec with
    | none => simp [resultAnswer, hv, hp, readAdmitted]
    | some p => simp [resultAnswer_of_written hv hp, readAdmitted, reservedBitsZero, resultWord_reserved]

theorem txframeAnswer_admitted (b : Block) : readAdmitted { off := 0x14, answer := txframeAnswer b } = true := by
  cases h : b.txframe with
  | none => rw [txframeAnswer_of_unwritten h]; rfl
  | some f => rw [txframeAnswer_of_written h]; rfl

theorem windowAnswer_admitted {b : Block} {r : WindowReg} {a : ReadAnswer} (h : windowAnswer b r = .ok a) :
    readAdmitted { off := r.offset, answer := a } = true := by
  cases r with
  | cmd => cases h
  | status => cases h; simp [readAdmitted, reservedBitsZero, WindowReg.offset, statusWord_reserved]
  | result => cases h; exact resultAnswer_admitted b
  | pecacc => cases h; simp [readAdmitted, reservedBitsZero, WindowReg.offset, pecaccWord_reserved]
  | config => cases h; simp [readAdmitted, reservedBitsZero, WindowReg.offset, configWord_reserved]
  | txframe => cases h; exact txframeAnswer_admitted b

theorem readAnswer_admitted {off width : Nat} {b : Block} {a : ReadAnswer} (h : readAnswer off width b = .ok a) :
    readAdmitted { off := off, answer := a } = true := by
  obtain ⟨r, hacc, hans⟩ := readAnswer_ok_iff.1 h
  obtain rfl := windowAt_eq_some_iff.1 (windowAccess_ok_iff.1 hacc).2
  exact windowAnswer_admitted hans

/-! ## The frame of a WRITE16 passes the receiver's check (R132, R133) -/

theorem crc8Step_self (b : Byte) : crc8Step b b = 0x00#8 := by
  rw [crc8Step_eq_shift8, BitVec.xor_self]; rfl

/-- A message followed by its own PEC has PEC 0 (R105). -/
theorem pec_append_pec (bytes : List Byte) : pec (bytes ++ [pec bytes]) = 0x00#8 := by
  rw [pec, pecFrom, List.foldl_append]
  exact crc8Step_self (pec bytes)

theorem receiverCheck_writeFrame (a : Addr7) (r : Byte) (v : Half) :
    receiverCheck a (frameBytes (writeFrame a r v)) = 0x00#8 :=
  pec_append_pec [writeAddressByte a, r, lowByte v, highByte v]

/-! ## Whole transactions (R59, R63, R66) -/

/-- Whole transactions after whole transactions: a framed trace never ends inside a READ16. -/
theorem traceFramed_append {es fs : List Event} (hes : traceFramed es = true) (hfs : traceFramed fs = true) :
    traceFramed (es ++ fs) = true := by
  fun_induction traceFramed es with
  | case1 => exact hfs
  | case5 => cases hes
  | case2 a _ a' n ans es ih =>
    obtain ⟨hrecv, hes⟩ := Bool.and_eq_true_iff.1 hes
    simp [traceFramed, Bool.and_eq_true_iff.1 hrecv, ih hes]
  | case3 _ _ ans es _ ih =>
    obtain ⟨hfail, hes⟩ := Bool.and_eq_true_iff.1 hes
    obtain rfl := of_decide_eq_true hfail
    simp [traceFramed, ih hes]
  | case4 _ _ _ _ es ih | case6 _ _ es ih | case7 _ es ih =>
    obtain ⟨hcall, hes⟩ := Bool.and_eq_true_iff.1 hes
    simp only [List.cons_append, traceFramed, hcall, ih hes, Bool.and_self]

theorem traceFramed_pointerFailed (s : State) (r : Byte) :
    traceFramed [{ call := s.pointerCall r, answer := .fail }] = true := by
  simp [State.pointerCall, traceFramed]

theorem traceFramed_pointer_receive (s : State) (r : Byte) (d : Draw) :
    traceFramed
      [{ call := s.pointerCall r, answer := .ok },
       { call := s.receiveCall, answer := answerOf s.receiveCall d }] = true := by
  cases hd : d.ok <;>
    simp [State.pointerCall, State.receiveCall, answerOf, hd, traceFramed, failOrThreeBytes]

theorem okOrFail_ite (ok : Bool) : okOrFail (if ok then .ok else .fail) = true := by
  cases ok <;> rfl

theorem traceFramed_frameCall (s : State) (r : Byte) (v : Half) (d : Draw) :
    traceFramed [{ call := s.frameCall r v, answer := answerOf (s.frameCall r v) d }] = true := by
  have hlen : (frameBytes (writeFrame s.block.devaddr r v)).length = 4 := rfl
  simp [State.frameCall, answerOf, traceFramed, okOrFail_ite, receiverCheck_writeFrame, hlen]

theorem traceFramed_initBus (d : Draw) :
    traceFramed [{ call := .initBus, answer := answerOf .initBus d }] = true := by
  simp [answerOf, traceFramed, okOrFail_ite]

theorem answerOf_pointerCall {s : State} {r : Byte} {d : Draw} {ok : Bool} (h : d.ok = ok) :
    answerOf (s.pointerCall r) d = if ok then .ok else .fail := by
  rw [State.pointerCall, answerOf, h]

/-- A command appends whole transactions to the trace. -/
theorem CommandRun.trace_eq_append {i : Instr} {s t : State} (h : CommandRun s i t) :
    ∃ es, t.transport.trace = s.transport.trace ++ es ∧ traceFramed es = true := by
  cases h with
  | initQuiet | pecclr | pecbyte => exact ⟨[], by simp, rfl⟩
  | initBus a u hu => exact ⟨_, rfl, traceFramed_initBus _⟩
  | readPtrFail r hp => exact ⟨_, by simp [answerOf_pointerCall hp], traceFramed_pointerFailed s r⟩
  | readRecvFail r hp hr | readOk r hp hr =>
    exact ⟨_, by simp [answerOf_pointerCall hp, State.receiveDraw],
      traceFramed_pointer_receive s r (s.receiveDraw r)⟩
  | write r v => exact ⟨_, rfl, traceFramed_frameCall s r v _⟩
  | delay ms => exact ⟨_, rfl, rfl⟩

/-! ## The invariant -/

theorem CommandRun.keeps_blockInv {i : Instr} {s t : State} (h : CommandRun s i t) (hs : s.block.Inv) :
    t.block.Inv := by
  obtain ⟨-, hresult, hbus, hframe⟩ := hs
  cases h with
  | write r v =>
    refine ⟨by simp, by simpa using hresult, by simpa using hbus, fun f hf => ⟨s.block.devaddr, ?_⟩⟩
    obtain rfl : writeFrame s.block.devaddr r v = f := by simpa using hf
    exact receiverCheck_writeFrame _ r v
  | initQuiet | initBus | readPtrFail | readRecvFail | readOk | pecclr | pecbyte | delay =>
    exact ⟨by simp, by simp [hresult], by simp [hbus], by simpa using hframe⟩

theorem CommandRun.keeps_inv {i : Instr} {s t : State} (h : CommandRun s i t) (hs : s.Inv) : t.Inv := by
  obtain ⟨hblock, htrace, hreads, hprog⟩ := hs
  obtain ⟨es, heq, hes⟩ := h.trace_eq_append
  refine ⟨h.keeps_blockInv hblock, ?_, ?_, ?_⟩
  · rw [heq]; exact traceFramed_append htrace hes
  · rw [h.host_eq]; exact hreads
  · rw [h.host_eq]; exact hprog

/-- A word runs its command, or is illegal and writes STATUS alone (R173). -/
theorem runWord_cases {w : Word} {s t : State} (h : runWord w s = .next t) :
    (∃ i, CommandRun s i t) ∨ t = s.raiseIllegalCommand := by
  unfold runWord at h
  split at h
  · next i _ => exact .inl ⟨i, exec_next_iff.1 h⟩
  · cases h; exact .inr rfl

theorem runWord_host {w : Word} {s t : State} (h : runWord w s = .next t) : t.host = s.host := by
  obtain ⟨i, hrun⟩ | rfl := runWord_cases h
  · exact hrun.host_eq
  · rfl

theorem runWord_keeps_inv {w : Word} {s t : State} (h : runWord w s = .next t) (hs : s.Inv) : t.Inv := by
  obtain ⟨i, hrun⟩ | rfl := runWord_cases h
  · exact hrun.keeps_inv hs
  · obtain ⟨⟨-, hblock⟩, hrest⟩ := hs
    exact ⟨⟨statusLegal_illegal, hblock⟩, hrest⟩

theorem State.Inv.setPending {s : State} (hs : s.Inv) (p : List Stimulus) : (s.setPending p).Inv := hs

theorem State.Inv.logRead {s : State} (hs : s.Inv) {off : Nat} {a : ReadAnswer}
    (ha : readAdmitted { off := off, answer := a } = true) : (s.logRead off a).Inv := by
  obtain ⟨hblock, htrace, hreads, hprog⟩ := hs
  exact ⟨hblock, htrace, by simpa [hreads] using ha, hprog⟩

/-- The block after reset meets its invariant (R200). -/
theorem blockInv_reset : Block.reset.Inv := ⟨by decide, rfl, rfl, nofun⟩

theorem State.Inv.assertReset {s : State} (hs : s.Inv) : s.assertReset.Inv := by
  obtain ⟨-, -, hreads, hprog⟩ := hs
  exact ⟨blockInv_reset, rfl, hreads, hprog⟩

theorem applyStimulus_keeps_inv {x : Stimulus} {s t : State} (h : applyStimulus x s = .next t) (hs : s.Inv) :
    t.Inv := by
  cases x with
  | read off width =>
    obtain ⟨a, ha, rfl⟩ := memRead_next_iff.1 h
    exact hs.logRead (readAnswer_admitted ha)
  | write off width v =>
    obtain ⟨-, -, hrun⟩ := memWrite_next_iff.1 h
    exact runWord_keeps_inv hrun hs
  | reset => cases h; exact hs.assertReset

theorem nextWord_eq_some_iff {h : HostSide} {w : Word} :
    nextWord h = some w ↔ h.programEnd = none ∧ h.program[h.index]? = some w := by
  unfold nextWord
  cases h.programEnd <;> simp

theorem applyPolicy_hostReads (s : State) : (applyPolicy s).host.hostReads = s.host.hostReads := by
  unfold applyPolicy; split
  · split <;> rfl
  · rfl

/-- Where R161 leaves a program that was running a word. -/
theorem programPlaced_applyPolicy {s : State} {w : Word} (h : nextWord s.host = some w) :
    programPlaced (applyPolicy s).host = true := by
  obtain ⟨hend, hw⟩ := nextWord_eq_some_iff.1 h
  obtain ⟨hlt, -⟩ := List.getElem?_eq_some_iff.1 hw
  unfold applyPolicy
  split
  · split
    · simp_all [programPlaced]
    · simp only [programPlaced, decide_eq_true_eq]
      omega
  · simp [programPlaced, hlt]

theorem State.Inv.applyPolicy {s : State} {w : Word} (hs : s.Inv) (h : nextWord s.host = some w) :
    (Machine.applyPolicy s).Inv := by
  obtain ⟨hblock, htrace, hreads, -⟩ := hs
  refine ⟨?_, ?_, ?_, programPlaced_applyPolicy h⟩
  · rwa [applyPolicy_block]
  · rwa [applyPolicy_transport]
  · rwa [applyPolicy_hostReads]

theorem programStep_keeps_inv {w : Word} {s t : State} (hw : nextWord s.host = some w)
    (h : programStep w s = .next t) (hs : s.Inv) : t.Inv := by
  rw [programStep_eq, andThen_next_iff] at h
  obtain ⟨u, hrun, hu⟩ := h
  cases hu
  rw [← runWord_host hrun] at hw
  have hstatus := windowAnswer_admitted (b := u.block) (r := .status) rfl
  exact State.Inv.applyPolicy ((runWord_keeps_inv hrun hs).logRead hstatus) hw

/-- Settles O54: each thing a step can do keeps the invariant. -/
theorem stepKeepsInv : Obligations.StepKeepsInv := by
  intro s t hs h
  obtain ⟨x, rest, -, hstep⟩ | ⟨-, w, hw, hstep⟩ | ⟨-, -, hstep⟩ := step_cases s
  · exact applyStimulus_keeps_inv (hstep ▸ h) (hs.setPending rest)
  · exact programStep_keeps_inv hw (hstep ▸ h) hs
  · cases hstep.symm.trans h
    exact hs

end Sys2Proof.Machine

/-!
PROOF. The host register window and the CMD write (R51 to R58, R72): which accesses are admitted and what a read is
answered; what a word written to CMD does and which calls it issues (R53, R59, R63, R66, R173); the step on what is
pending, and a placed command (R53); a launch (R68); the sensor map (R64).
-/

namespace Sys2Proof.Machine

/-! ## Words and commands (R80, R84, R86) -/

@[simp] theorem opField_packWord (op : BitVec 4) (a : Byte) (v : Half) : opField (packWord op a v) = op := by
  ext j hj
  interval_cases j <;> simp [opField, packWord]

@[simp] theorem zField_packWord (op : BitVec 4) (a : Byte) (v : Half) : zField (packWord op a v) = 0#4 := by
  ext j hj
  interval_cases j <;> simp [zField, packWord]

@[simp] theorem aField_packWord (op : BitVec 4) (a : Byte) (v : Half) : aField (packWord op a v) = a := by
  ext j hj
  interval_cases j <;> simp [aField, packWord]

@[simp] theorem vField_packWord (op : BitVec 4) (a : Byte) (v : Half) : vField (packWord op a v) = v := by
  ext j hj
  interval_cases j <;> simp [vField, packWord]

/-! The other fields `decode` tests or reads are parts of A and V. -/

theorem addr7Field_eq_aField (w : Word) : addr7Field w = (aField w).setWidth 7 :=
  (BitVec.setWidth_extractLsb'_of_le (by decide)).symm

theorem bit23_eq_aField (w : Word) : w.extractLsb' 23 1 = (aField w).extractLsb' 7 1 := by
  ext j hj
  obtain rfl := Nat.lt_one_iff.1 hj
  simp [aField]

theorem autoField_eq_vField (w : Word) : autoField w = (vField w).setWidth 1 :=
  (BitVec.setWidth_extractLsb'_of_le (by decide)).symm

theorem bits15to1_eq_vField (w : Word) : w.extractLsb' 1 15 = (vField w).extractLsb' 1 15 :=
  (BitVec.extractLsb'_extractLsb'_of_le (by decide)).symm

theorem bits23to0_eq_append (w : Word) : w.extractLsb' 0 24 = aField w ++ vField w :=
  (BitVec.extractLsb'_append_extractLsb'_eq_extractLsb' (start₁ := 0) (len₁ := 16) (len₂ := 8) rfl).symm

/-- Every command is read back from its word, whatever its operands (R86). -/
theorem decode_encode (i : Instr) : decode (encode i) = .ok i := by
  cases i with
  | init a u =>
    have ha : (a.setWidth 8).extractLsb' 7 1 = 0#1 := by ext j hj; simp
    have hu : (u.setWidth 16).extractLsb' 1 15 = 0#15 := by ext j hj; simp
    simp [decode, encode, bit23_eq_aField, bits15to1_eq_vField, addr7Field_eq_aField, autoField_eq_vField, ha, hu]
  | read16 | write16 | pecclr | pecbyte | delay => simp [decode, encode, bits23to0_eq_append]

theorem legalWord_eq_true_iff {w : Word} : legalWord w = true ↔ ∃ i, decode w = .ok i := by
  unfold legalWord
  cases decode w <;> simp [Except.isOk, Except.toBool]

theorem legalWord_eq_false_iff {w : Word} : legalWord w = false ↔ ∃ e, decode w = .error e := by
  unfold legalWord
  cases decode w <;> simp [Except.isOk, Except.toBool]

theorem runWord_of_decode {w : Word} {i : Instr} (h : decode w = .ok i) (s : State) : runWord w s = exec i s := by
  rw [runWord, h]

theorem runWord_of_illegal {w : Word} (h : legalWord w = false) (s : State) :
    runWord w s = .next s.raiseIllegalCommand := by
  obtain ⟨e, he⟩ := legalWord_eq_false_iff.1 h
  rw [runWord, he]

/-- Every word has a next state from every state. -/
theorem exists_runWord_next (w : Word) (s : State) : ∃ t, runWord w s = .next t := by
  cases h : legalWord w with
  | false => exact ⟨_, runWord_of_illegal h s⟩
  | true =>
    obtain ⟨i, hi⟩ := legalWord_eq_true_iff.1 h
    obtain ⟨t, hrun⟩ := exists_commandRun i s
    exact ⟨t, (runWord_of_decode hi s).trans hrun.exec_eq⟩

/-! ## What a command does, and its calls -/

theorem CommandRun.status_outcome {i : Instr} {s t : State} (h : CommandRun s i t) :
    t.block.status = 0x11#5 ∨ t.block.status = 0x12#5 ∨ t.block.status = 0x14#5 ∨ t.block.status = 0x16#5 ∨
      t.block.status = 0x18#5 := by
  cases h with
  | initQuiet | readOk | pecclr | pecbyte | delay => exact .inl rfl
  | readPtrFail => exact .inr (.inl rfl)
  | readRecvFail => exact .inr (.inr (.inl rfl))
  | initBus a u _ =>
    rw [State.setStatus_block_status]
    cases (s.drawFor .initBus).ok <;> decide
  | write r v =>
    rw [State.setStatus_block_status]
    cases (s.drawFor (s.frameCall r v)).ok <;> decide

/-- Settles O33: a legal word runs its command, and each run of a command ends in one of the five outcomes. -/
theorem everyWordCompletesWithAnOutcome : Obligations.EveryWordCompletesWithAnOutcome := by
  intro w s
  obtain ⟨t, ht⟩ := exists_runWord_next w s
  refine ⟨t, (memWrite_cmd w s).trans ht, fun hlegal => ?_, fun hillegal => ?_⟩
  · obtain ⟨i, hi⟩ := legalWord_eq_true_iff.1 hlegal
    rw [runWord_of_decode hi] at ht
    exact (exec_next_iff.1 ht).status_outcome
  · cases (runWord_of_illegal hillegal s).symm.trans ht
    rfl

/-- Settles O37: each run of a command shows the calls it appends. -/
theorem callsAreIssuedInOrder : Obligations.CallsAreIssuedInOrder := by
  intro i s t h
  cases exec_next_iff.1 h with
  | initQuiet a u hu => exact ⟨[], by simp, by simp [hu]⟩
  | initBus a u hu => exact ⟨_, rfl, by simp [hu]⟩
  | readPtrFail r hp => exact ⟨_, rfl, .inl (by rw [answerOf_pointerCall hp]; rfl)⟩
  | readRecvFail r hp hr | readOk r hp hr =>
    refine ⟨[⟨s.pointerCall r, .ok⟩, ⟨s.receiveCall, answerOf s.receiveCall (s.receiveDraw r)⟩], ?_,
      .inr ⟨_, rfl⟩⟩
    simp [answerOf_pointerCall hp, State.receiveDraw]
  | write r v => exact ⟨_, rfl, rfl⟩
  | pecclr | pecbyte => exact ⟨[], by simp, rfl⟩
  | delay ms => exact ⟨_, rfl, rfl⟩

/-! ## The step on what is pending -/

theorem step_of_pending {s : State} {x : Stimulus} {rest : List Stimulus} (h : s.host.pending = x :: rest) :
    step s = applyStimulus x (s.setPending rest) := by
  rw [step, hostStep, h]

/-- A pending CMD write is the run of its word. -/
theorem step_of_pending_cmdWrite {s : State} {w : Word} {rest : List Stimulus}
    (h : s.host.pending = .write 0x00 4 w :: rest) : step s = runWord w (s.setPending rest) :=
  (step_of_pending h).trans (memWrite_cmd w _)

/-- Settles O45: a pending CMD write is the run of its word; a pending read or reset is that stimulus. -/
theorem stepTakesTheNextStimulus : Obligations.StepTakesTheNextStimulus := by
  intro s rest
  refine ⟨fun w i h hi => ?_, fun w h hw => ?_, fun off width h => step_of_pending h, fun h => step_of_pending h⟩
  · rw [step_of_pending_cmdWrite h, runWord_of_decode hi]
  · rw [step_of_pending_cmdWrite h, runWord_of_illegal hw]

theorem tableWord_toNat (w : Word) : tableWord 32 w.toNat = w := by
  rw [tableWord, Nat.mod_eq_of_lt w.isLt, BitVec.ofNat_toNat, BitVec.setWidth_eq]

/-- Settles O46: the placed word is the command's own, and the step takes it off the queue again. -/
theorem stepRunsThePlacedCommand : Obligations.StepRunsThePlacedCommand := by
  intro s i
  constructor
  · rw [decodeTableWord, if_pos (Nat.le_refl 32), tableWord_toNat, decode_encode]
    rfl
  · rw [State.withFetchWord, tableWord_toNat]
    calc step (s.setPending (.write 0x00 4 (encode i) :: s.host.pending))
        = runWord (encode i) s := step_of_pending_cmdWrite rfl
      _ = exec i s := runWord_of_decode (decode_encode i) s

/-! ## What the host reads (R55 to R58) -/

/-- Bits above the two lower parts of a concatenation are bits of its top part. -/
theorem extractLsb'_append_append_of_le {a b c start len : Nat} {x : BitVec a} {y : BitVec b} {z : BitVec c}
    (h : c + b ≤ start) : (x ++ y ++ z).extractLsb' start len = x.extractLsb' (start - c - b) len := by
  rw [BitVec.extractLsb'_append_eq_of_le (by omega), BitVec.extractLsb'_append_eq_of_le (by omega)]

/-- Settles O39: PECACC is ACC with 24 zeros above it. -/
theorem pecaccPacksAcc : Obligations.PecaccPacksAcc := fun s =>
  ⟨pecaccWord s.block.acc, rfl, BitVec.extractLsb'_append_eq_right, BitVec.extractLsb'_append_eq_left⟩

/-- Settles O40: each field is what one part of the concatenation `configWord` holds. -/
theorem configPacksDevaddrAndAutoinit : Obligations.ConfigPacksDevaddrAndAutoinit := by
  intro s
  refine ⟨configWord s.block.autoinit s.block.devaddr, rfl, BitVec.extractLsb'_append_eq_right, ?_, ?_, ?_⟩
  · exact BitVec.getLsbD_append.trans BitVec.getLsbD_append
  · exact (extractLsb'_append_append_of_le (by decide)).trans BitVec.extractLsb'_append_eq_right
  · exact (extractLsb'_append_append_of_le (by decide)).trans BitVec.extractLsb'_append_eq_left

theorem Block.Inv.rdata_eq_none_iff {b : Block} (h : b.Inv) : b.rdata = none ↔ b.rpec = none := by
  obtain ⟨-, hresult, -⟩ := h
  rw [← Option.not_isSome_iff_eq_none, hresult, Option.not_isSome_iff_eq_none]

/-- Settles O41: the invariant holds RDATA and RPEC together; each field is one part of `resultWord`. -/
theorem resultPacksRdataAndRpec : Obligations.ResultPacksRdataAndRpec := by
  intro s hinv
  refine ⟨hinv.1.rdata_eq_none_iff, fun v p hv hp => ⟨resultWord v p, ?_, ?_, ?_, ?_, ?_⟩, fun hnone => ?_⟩
  · rw [memRead_result, resultAnswer_of_written hv hp]
  · exact BitVec.extractLsb'_append_eq_right
  · exact (BitVec.extractLsb'_append_eq_of_le (by decide)).trans BitVec.extractLsb'_append_eq_right
  · exact (BitVec.extractLsb'_append_eq_of_le (by decide)).trans BitVec.extractLsb'_append_eq_left
  · exact BitVec.extractLsb'_append_eq_of_add_le (by decide)
  · rw [memRead_result, resultAnswer_of_unwritten hnone]

/-- Settles O42: each frame byte is one part of the concatenation `txframeWord`. -/
theorem txframePacksTheFrame : Obligations.TxframePacksTheFrame := by
  refine fun s => ⟨fun f hf => ⟨txframeWord f, ?_, ?_, ?_, ?_, ?_⟩, fun hnone => ?_⟩
  · rw [memRead_txframe, txframeAnswer_of_written hf]
  · exact BitVec.extractLsb'_append_eq_right
  · exact (BitVec.extractLsb'_append_eq_of_le (by decide)).trans BitVec.extractLsb'_append_eq_right
  · exact (extractLsb'_append_append_of_le (by decide)).trans BitVec.extractLsb'_append_eq_right
  · exact (extractLsb'_append_append_of_le (by decide)).trans BitVec.extractLsb'_append_eq_left
  · rw [memRead_txframe, txframeAnswer_of_unwritten hnone]

/-! ## Which host accesses are admitted (R52, R72) -/

theorem readAnswer_eq_ok_iff {off width : Nat} {b : Block} {a : ReadAnswer} :
    readAnswer off width b = .ok a ↔ width = 4 ∧ ∃ r : WindowReg, off = r.offset ∧ windowAnswer b r = .ok a := by
  simp only [readAnswer_ok_iff, windowAccess_ok_iff, windowAt_eq_some_iff, and_assoc, exists_and_left]

theorem memRead_of_readAnswer_error {off width : Nat} {s : State} {e : Refusal}
    (h : readAnswer off width s.block = .error e) : memRead off width s = .refused e := by
  rw [memRead, h]

theorem memRead_next_or_refused (off width : Nat) (s : State) :
    (∃ t, memRead off width s = .next t) ∨ ∃ e, memRead off width s = .refused e := by
  cases h : readAnswer off width s.block with
  | ok a => exact .inl ⟨_, memRead_next_iff.2 ⟨a, h, rfl⟩⟩
  | error e => exact .inr ⟨e, memRead_of_readAnswer_error h⟩

theorem memWrite_next_or_refused (off width : Nat) (v : Word) (s : State) :
    (∃ t, memWrite off width v s = .next t) ∨ ∃ e, memWrite off width v s = .refused e := by
  unfold memWrite
  split
  · exact .inl (exists_runWord_next v s)
  · exact .inr ⟨_, rfl⟩
  · exact .inr ⟨_, rfl⟩

theorem exists_memWrite_next_iff {off width : Nat} {v : Word} {s : State} :
    (∃ t, memWrite off width v s = .next t) ↔ off = 0x00 ∧ width = 4 := by
  simp only [memWrite_next_iff, windowAt_eq_some_iff, exists_and_left, exists_runWord_next, and_true]
  exact and_comm

theorem logRead_inj {s : State} {off : Nat} {a a' : ReadAnswer} : s.logRead off a = s.logRead off a' ↔ a = a' := by
  simp [State.logRead]

/-- A read is answered `a` exactly where a readable register stands whose answer is `a`. -/
theorem memRead_eq_logRead_iff {off width : Nat} {s : State} {a : ReadAnswer} :
    memRead off width s = .next (s.logRead off a) ↔
      width = 4 ∧ ∃ r : WindowReg, off = r.offset ∧ windowAnswer s.block r = .ok a := by
  simp only [memRead_next_iff, logRead_inj, exists_eq_right', readAnswer_eq_ok_iff]

theorem exists_memRead_next_iff {off width : Nat} {s : State} :
    (∃ t, memRead off width s = .next t) ↔
      width = 4 ∧ ∃ (a : ReadAnswer) (r : WindowReg), off = r.offset ∧ windowAnswer s.block r = .ok a := by
  constructor
  · rintro ⟨t, ht⟩
    obtain ⟨a, ha, -⟩ := memRead_next_iff.1 ht
    obtain ⟨hw, hreg⟩ := readAnswer_eq_ok_iff.1 ha
    exact ⟨hw, a, hreg⟩
  · rintro ⟨hw, a, hreg⟩
    exact ⟨_, memRead_eq_logRead_iff.2 ⟨hw, hreg⟩⟩

theorem resultAnswer_eq_refused_iff {b : Block} :
    resultAnswer b = .refused ↔ ¬(b.rdata.isSome ∧ b.rpec.isSome) := by
  unfold resultAnswer
  cases b.rdata <;> cases b.rpec <;> simp

theorem txframeAnswer_eq_refused_iff {b : Block} : txframeAnswer b = .refused ↔ ¬b.txframe.isSome := by
  unfold txframeAnswer
  cases b.txframe <;> simp

theorem exists_eq_value_iff {a : ReadAnswer} : (∃ v, a = .value v) ↔ a ≠ .refused := by
  cases a <;> simp

theorem exists_windowReg_iff {P : WindowReg → Prop} :
    (∃ r, P r) ↔ P .cmd ∨ P .status ∨ P .result ∨ P .pecacc ∨ P .config ∨ P .txframe := by
  constructor
  · rintro ⟨r, hr⟩
    cases r <;> simp [hr]
  · rintro (h | h | h | h | h | h) <;> exact ⟨_, h⟩

theorem exists_windowAnswer_ok_iff {b : Block} {off : Nat} :
    (∃ (a : ReadAnswer) (r : WindowReg), off = r.offset ∧ windowAnswer b r = .ok a) ↔
      off = 0x04 ∨ off = 0x08 ∨ off = 0x0C ∨ off = 0x10 ∨ off = 0x14 := by
  rw [exists_comm]
  simp [exists_windowReg_iff, WindowReg.offset, windowAnswer]

theorem exists_windowAnswer_value_iff {b : Block} {off : Nat} :
    (∃ (v : Word) (r : WindowReg), off = r.offset ∧ windowAnswer b r = .ok (.value v)) ↔
      off = 0x04 ∨ (off = 0x08 ∧ b.rdata.isSome ∧ b.rpec.isSome) ∨ off = 0x0C ∨ off = 0x10 ∨
        (off = 0x14 ∧ b.txframe.isSome) := by
  rw [exists_comm]
  simp [exists_windowReg_iff, WindowReg.offset, windowAnswer, exists_eq_value_iff, resultAnswer_eq_refused_iff,
    txframeAnswer_eq_refused_iff, Option.isSome_iff_ne_none]

theorem windowAnswer_refused_iff {b : Block} {off : Nat} :
    (∃ r : WindowReg, off = r.offset ∧ windowAnswer b r = .ok .refused) ↔
      (off = 0x08 ∧ ¬(b.rdata.isSome ∧ b.rpec.isSome)) ∨ (off = 0x14 ∧ ¬b.txframe.isSome) := by
  simp only [exists_windowReg_iff, WindowReg.offset, windowAnswer, resultAnswer_eq_refused_iff,
    txframeAnswer_eq_refused_iff, Except.ok.injEq, reduceCtorEq, and_false, false_or]

/-- Settles O43: an access is admitted by the register it reaches, and its answer is that register's. -/
theorem onlyTheListedHostAccessesAreAdmitted : Obligations.OnlyTheListedHostAccessesAreAdmitted := by
  intro s off width
  refine ⟨fun v => ⟨exists_memWrite_next_iff, fun hnot => ?_⟩, ?_, ?_, ?_, fun hnot => ?_⟩
  · exact (memWrite_next_or_refused off width v s).resolve_left fun hnext =>
      hnot (exists_memWrite_next_iff.1 hnext)
  · rw [exists_memRead_next_iff, exists_windowAnswer_ok_iff]
  · simp only [memRead_eq_logRead_iff, exists_and_left, exists_windowAnswer_value_iff]
  · rw [memRead_eq_logRead_iff, windowAnswer_refused_iff]
  · exact (memRead_next_or_refused off width s).resolve_left fun ⟨t, ht⟩ => hnot t ht

/-- Settles O44: a read's next state only notes its answer, and what a read is answered depends on the block alone. -/
theorem hostReadsHaveNoSideEffect : Obligations.HostReadsHaveNoSideEffect := by
  intro s t off width h
  obtain ⟨a, ha, rfl⟩ := memRead_next_iff.1 h
  exact ⟨rfl, rfl, rfl, rfl, rfl, rfl, ⟨a, rfl, memRead_next_iff.2 ⟨a, ha, rfl⟩⟩, fun _ _ => rfl⟩

/-! ## A launch (R68) -/

/-- Settles O50: a launch looks at whether there are other hosts and nothing else of them. -/
theorem launchTakesOneHost : Obligations.LaunchTakesOneHost := fun p _ _ =>
  ⟨rfl, State.reset.loadProgram p, rfl, rfl, rfl, rfl, rfl⟩

/-! ## The sensor map (R64) -/

theorem mem_sensorRegs (r : SensorReg) : r ∈ sensorRegs := by
  cases r <;> decide

theorem sensorAddress_inj {r r' : SensorReg} : sensorAddress r = sensorAddress r' ↔ r = r' := by
  have hnodup : (sensorRegs.map sensorAddress).Nodup := by decide
  exact ⟨List.inj_on_of_nodup_map hnodup (mem_sensorRegs r) (mem_sensorRegs r'), congrArg sensorAddress⟩

/-- A spelling is read as the one register it belongs to. -/
theorem sensorNamed_eq_some_iff {name : List Char} {r : SensorReg} :
    sensorNamed name = some r ↔ name = (sensorName r).toList := by
  constructor
  · intro h
    have hfound := List.find?_some (p := fun r => decide ((sensorName r).toList = name)) h
    exact (of_decide_eq_true hfound).symm
  · rintro rfl
    cases r <;> rfl

theorem isEeprom_iff {b : Byte} : isEeprom b = true ↔ 0x20 ≤ b.toNat ∧ b.toNat ≤ 0x3F := by
  simp [isEeprom, BitVec.le_def]

theorem sensorClass_eq_eeprom_iff {r : SensorReg} :
    sensorClass r = .eeprom ↔ isEeprom (sensorAddress r) = true := by
  cases r <;> decide

theorem sensorClass_eq_ram_iff {r : SensorReg} :
    sensorClass r = .ram ↔ 0x04#8 ≤ sensorAddress r ∧ sensorAddress r ≤ 0x08#8 := by
  cases r <;> decide

/-- Settles O57: the map's entries as listed, then the laws of addresses, classes and spellings. -/
theorem sensorMapIsTheSpecs : Obligations.SensorMapIsTheSpecs := by
  refine ⟨by decide, fun b => isEeprom_iff, fun r => ⟨?_, sensorClass_eq_eeprom_iff, sensorClass_eq_ram_iff,
    fun r' => sensorAddress_inj.1, sensorNamed_eq_some_iff.2 rfl⟩, fun name r => sensorNamed_eq_some_iff.1⟩
  rw [sensorClass_eq_eeprom_iff, isEeprom_iff]

end Sys2Proof.Machine

/-!
PROOF. The command words (R80 to R86): a word as the number its four fields make, decoding as the inverse of encoding,
the rows of the opcode table as conditions on the fields, and the count of the legal words.
-/

namespace Sys2Proof.Machine

/-! ## A word and its fields (R80) -/

/-- The four fields make up the word. -/
theorem word_toNat_eq_fields (w : Word) :
    w.toNat = (opField w).toNat * 2 ^ 28 + (zField w).toNat * 2 ^ 24 + (aField w).toNat * 2 ^ 16 +
      (vField w).toNat := by
  have hw : w.toNat < 2 ^ 32 := w.isLt
  simp only [opField, zField, aField, vField, BitVec.extractLsb'_toNat, Nat.shiftRight_eq_div_pow]
  omega

theorem word_eq_iff_fields {w w' : Word} :
    w = w' ↔ opField w = opField w' ∧ zField w = zField w' ∧ aField w = aField w' ∧ vField w = vField w' := by
  refine ⟨fun h => by simp [h], fun ⟨hop, hz, ha, hv⟩ => BitVec.eq_of_toNat_eq ?_⟩
  rw [word_toNat_eq_fields w, word_toNat_eq_fields w', hop, hz, ha, hv]

theorem packWord_eq_iff {op : BitVec 4} {a : Byte} {v : Half} {w : Word} :
    packWord op a v = w ↔ opField w = op ∧ zField w = 0#4 ∧ aField w = a ∧ vField w = v := by
  simp [eq_comm (b := w), word_eq_iff_fields]

theorem packWord_toNat (op : BitVec 4) (a : Byte) (v : Half) :
    (packWord op a v).toNat = op.toNat * 2 ^ 28 + a.toNat * 2 ^ 16 + v.toNat := by
  simpa using word_toNat_eq_fields (packWord op a v)

/-! ## Decoding and encoding are inverse (R86) -/

/-- Settles O2: decoding undoes encoding. -/
theorem encodeThenDecode : Obligations.EncodeThenDecode := decode_encode

/-- A bit vector whose bits from `k` on are 0 is the zero-extension of its low `k` bits. -/
theorem eq_setWidth_setWidth_of_upperBits {n k : Nat} {x : BitVec n} (h : x.extractLsb' k (n - k) = 0#(n - k)) :
    x = (x.setWidth k).setWidth n := by
  ext j hj
  by_cases hjk : j < k
  · simp [hj, hjk]
  · have hbit : (x.extractLsb' k (n - k)).getLsbD (j - k) = false := by rw [h, BitVec.getLsbD_zero]
    simpa [hj, hjk, show j - k < n - k by omega, show k + (j - k) = j by omega] using hbit

/-- The encoding of a decoded command is the word it was decoded from: the bits `decode` tests are 0, the others are its
operands. -/
theorem encode_of_decode {w : Word} {i : Instr} (h : decode w = .ok i) : encode i = w := by
  unfold decode at h
  split_ifs at h with hz hop h23 hV hop hv hop hop h24 hop hv hop ha
  all_goals cases h
  all_goals simp only [encode, packWord_eq_iff, hz, hop, true_and, and_true]
  · rw [bit23_eq_aField] at h23
    rw [bits15to1_eq_vField] at hV
    rw [addr7Field_eq_aField, autoField_eq_vField]
    exact ⟨eq_setWidth_setWidth_of_upperBits h23, eq_setWidth_setWidth_of_upperBits hV⟩
  · exact hv
  · have ha : aField w = (w.extractLsb' 0 24).extractLsb' 16 8 := by
      rw [BitVec.extractLsb'_extractLsb'_of_le (by decide)]; rfl
    have hv : vField w = (w.extractLsb' 0 24).extractLsb' 0 16 := by
      rw [BitVec.extractLsb'_extractLsb'_of_le (by decide)]; rfl
    simp [ha, hv, h24]
  · exact hv
  · exact ha

theorem decode_eq_ok_iff {w : Word} {i : Instr} : decode w = .ok i ↔ encode i = w :=
  ⟨encode_of_decode, fun h => h ▸ decode_encode i⟩

/-- Settles O3: each legal word has one spelling. -/
theorem decodeThenEncode : Obligations.DecodeThenEncode := fun _ _ => encode_of_decode

/-- Settles O1: sixteen closed words, each decoded by computation. -/
theorem wordsDecodeAsWritten : Obligations.WordsDecodeAsWritten := by
  unfold Obligations.WordsDecodeAsWritten
  decide

/-! ## The number of a command's word (R80 to R83) -/

/-- Settles O4: the word of a command is the number its fields make. -/
theorem encodePlacesTheFields : Obligations.EncodePlacesTheFields := by
  refine ⟨fun a u => ?_, fun r => ?_, fun r v => ?_, rfl, fun b => ?_, fun ms => ?_⟩
  · have ha : (a.setWidth 8).toNat = a.toNat := BitVec.toNat_setWidth_of_le (by decide)
    have hu : (u.setWidth 16).toNat = u.toNat := BitVec.toNat_setWidth_of_le (by decide)
    rw [encode, packWord_toNat, ha, hu]
    rfl
  all_goals simp [encode, packWord_toNat]

/-- Settles O5: the word is the number of O4, so dividing it gives the operands back. -/
theorem decodeReadsTheFields : Obligations.DecodeReadsTheFields := by
  intro w
  obtain ⟨hinit, hread, hwrite, -, hbyte, hdelay⟩ := encodePlacesTheFields
  refine ⟨fun a u h => ?_, fun r h => ?_, fun r v h => ?_, fun b h => ?_, fun ms h => ?_⟩
  all_goals obtain rfl := encode_of_decode h
  · rw [hinit]; omega
  · rw [hread]; omega
  · rw [hwrite]; omega
  · rw [hbyte]; omega
  · rw [hdelay]; omega

/-! ## The rows of the opcode table (R82, R84) -/

/-- A row whose mask fixes OP and Z, tested field by field. -/
theorem and_row_eq_iff (maskA : Byte) (maskV : Half) (op : BitVec 4) (a : Byte) (v : Half) {w : Word} :
    w &&& (0xFF000000#32 ||| packWord 0#4 maskA maskV) = packWord op a v ↔
      opField w = op ∧ zField w = 0#4 ∧ aField w &&& maskA = a ∧ vField w &&& maskV = v := by
  have hfield (start len : Nat) (m : Word) :
      (w &&& (0xFF000000#32 ||| m)).extractLsb' start len =
        w.extractLsb' start len &&& ((0xFF000000#32).extractLsb' start len ||| m.extractLsb' start len) := by
    rw [BitVec.extractLsb'_and, BitVec.extractLsb'_or]
  have hones (x y : BitVec 4) : x &&& (BitVec.allOnes 4 ||| y) = x := by rw [BitVec.allOnes_or, BitVec.and_allOnes]
  have hop (m : Word) : opField (w &&& (0xFF000000#32 ||| m)) = opField w := (hfield 28 4 m).trans (hones _ _)
  have hz (m : Word) : zField (w &&& (0xFF000000#32 ||| m)) = zField w := (hfield 24 4 m).trans (hones _ _)
  have ha (m : Word) : aField (w &&& (0xFF000000#32 ||| m)) = aField w &&& aField m :=
    (hfield 16 8 m).trans (congrArg _ BitVec.zero_or)
  have hv (m : Word) : vField (w &&& (0xFF000000#32 ||| m)) = vField w &&& vField m :=
    (hfield 0 16 m).trans (congrArg _ BitVec.zero_or)
  simp [word_eq_iff_fields, hop, hz, ha, hv]

theorem and_upperBits_eq_zero_iff {n k : Nat} {x : BitVec n} :
    x &&& (BitVec.allOnes n <<< k) = 0#n ↔ ∃ a : BitVec k, x = a.setWidth n := by
  constructor
  · intro h
    refine ⟨x.setWidth k, eq_setWidth_setWidth_of_upperBits ?_⟩
    ext j hj
    have hbit : (x &&& (BitVec.allOnes n <<< k)).getLsbD (k + j) = false := by rw [h, BitVec.getLsbD_zero]
    simpa [show k + j < n by omega, show j < n by omega] using hbit
  · rintro ⟨a, rfl⟩
    ext j hj
    by_cases hjk : j < k
    · simp [hjk]
    · simp [hjk, BitVec.getLsbD_of_ge a j (Nat.not_lt.1 hjk)]

theorem exists_instr_iff {P : Instr → Prop} :
    (∃ i, P i) ↔
      (∃ a u, P (.init a u)) ∨ (∃ r, P (.read16 r)) ∨ (∃ r v, P (.write16 r v)) ∨ P .pecclr ∨
        (∃ b, P (.pecbyte b)) ∨ ∃ ms, P (.delay ms) := by
  constructor
  · rintro ⟨i, h⟩
    cases i with
    | init a u => exact .inl ⟨a, u, h⟩
    | read16 r => exact .inr (.inl ⟨r, h⟩)
    | write16 r v => exact .inr (.inr (.inl ⟨r, v, h⟩))
    | pecclr => exact .inr (.inr (.inr (.inl h)))
    | pecbyte b => exact .inr (.inr (.inr (.inr (.inl ⟨b, h⟩))))
    | delay ms => exact .inr (.inr (.inr (.inr (.inr ⟨ms, h⟩))))
  · rintro (⟨a, u, h⟩ | ⟨r, h⟩ | ⟨r, v, h⟩ | h | ⟨b, h⟩ | ⟨ms, h⟩) <;> exact ⟨_, h⟩

section Rows

variable {w : Word}

theorem exists_decode_init_iff :
    (∃ a u, decode w = .ok (.init a u)) ↔ w &&& 0xFF80FFFE#32 = 0x10000000#32 := by
  refine .trans ?_ (and_row_eq_iff (BitVec.allOnes 8 <<< 7) (BitVec.allOnes 16 <<< 1) 0x1#4 0#8 0#16).symm
  simp only [decode_eq_ok_iff, encode, packWord_eq_iff, and_upperBits_eq_zero_iff, exists_and_left, exists_and_right]

theorem exists_decode_read16_iff :
    (∃ r, decode w = .ok (.read16 r)) ↔ w &&& 0xFF00FFFF#32 = 0x20000000#32 := by
  refine .trans ?_ (and_row_eq_iff 0#8 (.allOnes 16) 0x2#4 0#8 0#16).symm
  simp only [decode_eq_ok_iff, encode, packWord_eq_iff, exists_and_left, exists_and_right, exists_eq',
    BitVec.and_zero, BitVec.and_allOnes, true_and]

theorem exists_decode_write16_iff :
    (∃ r v, decode w = .ok (.write16 r v)) ↔ w &&& 0xFF000000#32 = 0x30000000#32 := by
  refine .trans ?_ (and_row_eq_iff 0#8 0#16 0x3#4 0#8 0#16).symm
  simp only [decode_eq_ok_iff, encode, packWord_eq_iff, exists_and_left, exists_eq', BitVec.and_zero, and_true]

theorem decode_pecclr_iff : decode w = .ok .pecclr ↔ w &&& 0xFFFFFFFF#32 = 0x40000000#32 := by
  refine .trans ?_ (and_row_eq_iff (.allOnes 8) (.allOnes 16) 0x4#4 0#8 0#16).symm
  simp only [decode_eq_ok_iff, encode, packWord_eq_iff, BitVec.and_allOnes]

theorem exists_decode_pecbyte_iff :
    (∃ b, decode w = .ok (.pecbyte b)) ↔ w &&& 0xFF00FFFF#32 = 0x50000000#32 := by
  refine .trans ?_ (and_row_eq_iff 0#8 (.allOnes 16) 0x5#4 0#8 0#16).symm
  simp only [decode_eq_ok_iff, encode, packWord_eq_iff, exists_and_left, exists_and_right, exists_eq',
    BitVec.and_zero, BitVec.and_allOnes, true_and]

theorem exists_decode_delay_iff :
    (∃ ms, decode w = .ok (.delay ms)) ↔ w &&& 0xFFFF0000#32 = 0x60000000#32 := by
  refine .trans ?_ (and_row_eq_iff (.allOnes 8) 0#16 0x6#4 0#8 0#16).symm
  simp only [decode_eq_ok_iff, encode, packWord_eq_iff, exists_and_left, exists_eq', BitVec.and_zero,
    BitVec.and_allOnes]

end Rows

/-- Settles O6: row by row, the bits the mask leaves free are the operands; a legal word is a command of one row. -/
theorem legalWordsMatchTheirRows : Obligations.LegalWordsMatchTheirRows := by
  refine fun w => ⟨exists_decode_init_iff, exists_decode_read16_iff, exists_decode_write16_iff, decode_pecclr_iff,
    exists_decode_pecbyte_iff, exists_decode_delay_iff, ?_⟩
  rw [legalWord_eq_true_iff, exists_instr_iff, exists_decode_init_iff, exists_decode_read16_iff,
    exists_decode_write16_iff, decode_pecclr_iff, exists_decode_pecbyte_iff, exists_decode_delay_iff]

/-! ## The count (R84) -/

/-- The operands of each command. -/
def operandsEquiv : Instr ≃ (Addr7 × BitVec 1) ⊕ Byte ⊕ (Byte × Half) ⊕ Unit ⊕ Byte ⊕ Half where
  toFun
    | .init a u => .inl (a, u)
    | .read16 r => .inr (.inl r)
    | .write16 r v => .inr (.inr (.inl (r, v)))
    | .pecclr => .inr (.inr (.inr (.inl ())))
    | .pecbyte b => .inr (.inr (.inr (.inr (.inl b))))
    | .delay ms => .inr (.inr (.inr (.inr (.inr ms))))
  invFun
    | .inl (a, u) => .init a u
    | .inr (.inl r) => .read16 r
    | .inr (.inr (.inl (r, v))) => .write16 r v
    | .inr (.inr (.inr (.inl ()))) => .pecclr
    | .inr (.inr (.inr (.inr (.inl b)))) => .pecbyte b
    | .inr (.inr (.inr (.inr (.inr ms)))) => .delay ms
  left_inv i := by cases i <;> rfl
  right_inv x := by rcases x with _ | _ | _ | _ | _ | _ <;> rfl

theorem card_bitVec (n : Nat) : Nat.card (BitVec n) = 2 ^ n := by
  rw [Nat.card_congr BitVec.equivFin.toEquiv, Nat.card_fin]

theorem card_instr : Nat.card Instr = 16843521 := by
  rw [Nat.card_congr operandsEquiv]
  simp only [Nat.card_sum, Nat.card_prod, card_bitVec, Nat.card_unique]
  norm_num

/-- The legal words are the encodings of the commands, one each. -/
theorem encode_bijective_legalWord :
    Function.Bijective (fun i => ⟨encode i, legalWord_eq_true_iff.2 ⟨i, decode_encode i⟩⟩ :
      Instr → { w : Word // legalWord w = true }) := by
  constructor
  · intro i i' h
    have := congrArg (decode ·.val) h
    simpa [decode_encode] using this
  · rintro ⟨w, hw⟩
    obtain ⟨i, hi⟩ := legalWord_eq_true_iff.1 hw
    exact ⟨i, Subtype.ext (encode_of_decode hi)⟩

/-- Settles O7: there are as many legal words as commands. -/
theorem legalWordCount : Obligations.LegalWordCount :=
  (Nat.card_congr (Equiv.ofBijective _ encode_bijective_legalWord)).symm.trans card_instr

end Sys2Proof.Machine

/-!
PROOF. The assembler (R87 to R89): which operands are errors and which words a line gives; a number written in
hexadecimal is read back; a line of a mnemonic and operands is read as the command they name; and the disassembly of a
legal word is such a line.
-/

namespace Sys2Proof.Machine

/-! ## Assembler commands (R87, R88) -/

theorem assemble_of_not_wellFormed {c : AsmCmd} (h : c.wellFormed = false) :
    assemble c = .error .operandDoesNotFit := by
  simp [assemble, h]

theorem fits_eq_false {bits n : Nat} (h : 2 ^ bits ≤ n) : fits bits n = false := decide_eq_false (Nat.not_lt.2 h)

@[simp] theorem fits_toNat {bits : Nat} (x : BitVec bits) : fits bits x.toNat = true := decide_eq_true x.isLt

/-- The assembler command of a command, its operands as numbers. -/
def asmOfInstr : Instr → AsmCmd
  | .init a u => .init a.toNat u.toNat
  | .read16 r => .read16 r.toNat
  | .write16 r v => .write16 r.toNat v.toNat
  | .pecclr => .pecclr
  | .pecbyte b => .pecbyte b.toNat
  | .delay ms => .delay ms.toNat

theorem assemble_asmOfInstr (i : Instr) : assemble (asmOfInstr i) = .ok [encode i] := by
  cases i <;> simp [asmOfInstr, assemble, AsmCmd.wellFormed, expand]

/-- Settles O56: an operand past its field makes the command ill formed; operands at their widths survive the way
through their numbers. -/
theorem assemblerChecksAndExpands : Obligations.AssemblerChecksAndExpands := by
  refine ⟨fun c => assemble_of_not_wellFormed, fun a u h => ?_, fun r h => ?_, fun r v h => ?_, fun b h => ?_,
    fun ms h => ?_, fun bs ⟨b, hb, h⟩ => ?_, fun a u => assemble_asmOfInstr (.init a u),
    fun r => assemble_asmOfInstr (.read16 r), fun r v => assemble_asmOfInstr (.write16 r v),
    assemble_asmOfInstr .pecclr, fun b => assemble_asmOfInstr (.pecbyte b), fun ms => assemble_asmOfInstr (.delay ms),
    fun r v => ?_, fun bs => ?_⟩
  · refine assemble_of_not_wellFormed ?_
    rcases h with h | h
    · simp [AsmCmd.wellFormed, fits_eq_false h]
    · simp [AsmCmd.wellFormed, fits_eq_false (bits := 1) h]
  · exact assemble_of_not_wellFormed (fits_eq_false h)
  · have hpair : (fits 8 r && fits 16 v) = false := by
      rcases h with h | h <;> simp [fits_eq_false h]
    exact ⟨assemble_of_not_wellFormed hpair, assemble_of_not_wellFormed hpair⟩
  · exact assemble_of_not_wellFormed (fits_eq_false h)
  · exact assemble_of_not_wellFormed (fits_eq_false h)
  · exact assemble_of_not_wellFormed (List.all_eq_false.2 ⟨b, hb, by simp [fits_eq_false h]⟩)
  · simp [assemble, AsmCmd.wellFormed, expand, expandEwrite]
  · simp [assemble, AsmCmd.wellFormed, expand, expandPec, Function.comp_def]

/-! ## The characters of mnemonics and operands -/

/-- A character that can stand inside a mnemonic or an operand: no blank, comma or comment sign. -/
def plainChar (c : Char) : Bool := !isBlank c && c ≠ ',' && c ≠ ';'

theorem plainChar_iff {c : Char} : plainChar c = true ↔ isBlank c = false ∧ c ≠ ',' ∧ c ≠ ';' := by
  simp [plainChar, and_assoc]

theorem isBlank_of_plainChar {c : Char} (h : plainChar c = true) : isBlank c = false := (plainChar_iff.1 h).1

/-- A mnemonic or an operand: at least one character, each of them plain. -/
structure IsPlain (cs : List Char) : Prop where
  ne_nil : cs ≠ []
  plain : ∀ c ∈ cs, plainChar c = true

/-! ## Hexadecimal numbers (R89) -/

theorem digitValue_hexDigit : ∀ n < 16, digitValue 16 (hexDigit n) = some n := by decide

theorem plainChar_hexDigit_mod (n : Nat) : plainChar (hexDigit (n % 16)) = true := by
  have hdigits : ∀ d < 16, plainChar (hexDigit d) = true := by decide
  exact hdigits _ (Nat.mod_lt n (by decide))

theorem digitsValue_hexDigit_cons (acc n : Nat) (tail : List Char) :
    digitsValue 16 acc (hexDigit (n % 16) :: tail) = digitsValue 16 (16 * acc + n % 16) tail := by
  rw [digitsValue, digitValue_hexDigit _ (Nat.mod_lt n (by decide))]

/-- Reading the digits of `n` and then `tail` is reading `tail` after the value `n`. -/
theorem digitsValue_hexDigits {fuel n : Nat} (h : n < 16 ^ (fuel + 1)) (tail : List Char) :
    digitsValue 16 0 (hexDigits fuel n tail) = digitsValue 16 n tail := by
  induction fuel generalizing n tail with
  | zero => rw [hexDigits, digitsValue_hexDigit_cons, Nat.mul_zero, Nat.zero_add, Nat.mod_eq_of_lt (by omega)]
  | succ fuel ih =>
    rw [hexDigits]
    split
    case isTrue hn =>
      rw [digitsValue_hexDigit_cons, Nat.mul_zero, Nat.zero_add, Nat.mod_eq_of_lt (by omega)]
    case isFalse =>
      rw [ih (by omega), digitsValue_hexDigit_cons, Nat.div_add_mod]

theorem hexDigits_eq_cons (fuel n : Nat) (tail : List Char) : ∃ c cs, hexDigits fuel n tail = c :: cs := by
  induction fuel generalizing n tail with
  | zero => exact ⟨_, _, rfl⟩
  | succ fuel ih =>
    rw [hexDigits]
    split
    · exact ⟨_, _, rfl⟩
    · exact ih ..

theorem plainChar_of_mem_hexDigits {fuel n : Nat} {tail : List Char} (h : ∀ c ∈ tail, plainChar c = true) :
    ∀ c ∈ hexDigits fuel n tail, plainChar c = true := by
  have hcons (n : Nat) {tail : List Char} (h : ∀ c ∈ tail, plainChar c = true) :
      ∀ c ∈ hexDigit (n % 16) :: tail, plainChar c = true :=
    List.forall_mem_cons.2 ⟨plainChar_hexDigit_mod n, h⟩
  induction fuel generalizing n tail with
  | zero => exact hcons n h
  | succ fuel ih =>
    rw [hexDigits]
    split
    · exact hcons n h
    · exact ih (hcons n h)

theorem isPlain_hexOperand (n : Nat) : IsPlain (hexOperand n) :=
  ⟨by simp [hexOperand], List.forall_mem_cons.2 ⟨by decide, List.forall_mem_cons.2 ⟨by decide,
    plainChar_of_mem_hexDigits nofun⟩⟩⟩

theorem parseOperand_hexOperand {n : Nat} (h : n < 2 ^ 16) : parseOperand (hexOperand n) = some (.number n) := by
  obtain ⟨c, cs, hcs⟩ := hexDigits_eq_cons 3 n []
  have hread : digitsValue 16 0 (c :: cs) = some n := hcs ▸ digitsValue_hexDigits h []
  rw [hexOperand, hcs]
  simp [parseOperand, parseNumber, hread]

/-! ## Lines (R87) -/

/-- The operands of a line, each after a blank, with commas between them. -/
def operandsChars : List (List Char) → List Char
  | [] => []
  | [p] => ' ' :: p
  | p :: q :: ps => ' ' :: (p ++ ',' :: operandsChars (q :: ps))

theorem dropWhile_isBlank_eq_self {cs : List Char} (h : ∀ c ∈ cs.head?, isBlank c = false) :
    cs.dropWhile isBlank = cs := by
  cases cs with
  | nil => rfl
  | cons c cs => exact List.dropWhile_cons_of_neg (by simp [h c rfl])

theorem trimBlanks_eq_self {cs : List Char} (hhead : ∀ c ∈ cs.head?, isBlank c = false)
    (hlast : ∀ c ∈ cs.getLast?, isBlank c = false) : trimBlanks cs = cs := by
  rw [trimBlanks, dropWhile_isBlank_eq_self hhead, dropWhile_isBlank_eq_self (by rwa [List.head?_reverse]),
    List.reverse_reverse]

theorem IsPlain.trimBlanks_cons {cs : List Char} (h : IsPlain cs) : trimBlanks (' ' :: cs) = cs :=
  trimBlanks_eq_self (fun c hc => isBlank_of_plainChar (h.plain c (List.mem_of_mem_head? hc)))
    fun c hc => isBlank_of_plainChar (h.plain c (List.mem_of_mem_getLast? hc))

theorem trimBlanks_ne_nil {cs : List Char} {c : Char} (hmem : c ∈ cs) (hc : isBlank c = false) :
    trimBlanks cs ≠ [] := by
  intro h
  have hdrop : ∀ d ∈ cs.dropWhile isBlank, isBlank d = true := List.rdropWhile_eq_nil_iff.1 h
  rw [← List.takeWhile_append_dropWhile (p := isBlank) (l := cs), List.mem_append] at hmem
  rcases hmem with hmem | hmem
  · simp [List.mem_takeWhile_imp hmem] at hc
  · simp [hdrop c hmem] at hc

theorem exists_operandsChars_cons (p : List Char) (ps : List (List Char)) :
    ∃ rest, operandsChars (p :: ps) = ' ' :: (p ++ rest) := by
  cases ps with
  | nil => exact ⟨[], by simp [operandsChars]⟩
  | cons q ps => exact ⟨_, rfl⟩

theorem mem_operandsChars {c : Char} {ps : List (List Char)} (h : c ∈ operandsChars ps) :
    c = ' ' ∨ c = ',' ∨ ∃ p ∈ ps, c ∈ p := by
  fun_induction operandsChars ps with
  | case1 => cases h
  | case2 p =>
    rcases List.mem_cons.1 h with h | h
    · exact .inl h
    · exact .inr (.inr ⟨p, List.mem_singleton_self p, h⟩)
  | case3 p q ps ih =>
    simp only [List.mem_cons, List.mem_append] at h
    rcases h with h | h | h | h
    · exact .inl h
    · exact .inr (.inr ⟨p, List.mem_cons_self, h⟩)
    · exact .inr (.inl h)
    · obtain h | h | ⟨r, hr, h⟩ := ih h
      · exact .inl h
      · exact .inr (.inl h)
      · exact .inr (.inr ⟨r, List.mem_cons_of_mem p hr, h⟩)

theorem plainChar_getLast_operandsChars {ps : List (List Char)} (h : ∀ p ∈ ps, IsPlain p) {c : Char}
    (hc : c ∈ (operandsChars ps).getLast?) : plainChar c = true := by
  fun_induction operandsChars ps with
  | case1 => cases hc
  | case2 p =>
    obtain ⟨hne, hp⟩ := h p List.mem_cons_self
    rw [← List.singleton_append, List.getLast?_append_of_ne_nil _ hne] at hc
    exact hp c (List.mem_of_mem_getLast? hc)
  | case3 p q ps ih =>
    obtain ⟨rest, hrest⟩ := exists_operandsChars_cons q ps
    have hne : operandsChars (q :: ps) ≠ [] := by simp [hrest]
    rw [List.append_cons, ← List.cons_append, List.getLast?_append_of_ne_nil _ hne] at hc
    exact ih (fun r hr => h r (List.mem_cons_of_mem p hr)) hc

theorem splitCommas_of_not_mem {cs : List Char} (h : ',' ∉ cs) : splitCommas cs = [cs] := by
  induction cs with
  | nil => rfl
  | cons c cs ih =>
    rw [List.mem_cons, not_or] at h
    rw [splitCommas, if_neg (Ne.symm h.1), ih h.2]

theorem splitCommas_append_comma {cs : List Char} (h : ',' ∉ cs) (rest : List Char) :
    splitCommas (cs ++ ',' :: rest) = cs :: splitCommas rest := by
  induction cs with
  | nil => simp [splitCommas]
  | cons c cs ih =>
    rw [List.mem_cons, not_or] at h
    rw [List.cons_append, splitCommas, if_neg (Ne.symm h.1), ih h.2]

theorem splitCommas_operandsChars (p : List Char) (ps : List (List Char)) (h : ∀ q ∈ p :: ps, ',' ∉ q) :
    splitCommas (operandsChars (p :: ps)) = (p :: ps).map (' ' :: ·) := by
  have hp : ',' ∉ ' ' :: p := by simpa using h p List.mem_cons_self
  induction ps generalizing p with
  | nil => exact splitCommas_of_not_mem hp
  | cons q ps ih =>
    have hps : ∀ r ∈ q :: ps, ',' ∉ r := fun r hr => h r (List.mem_cons_of_mem p hr)
    rw [operandsChars, ← List.cons_append, splitCommas_append_comma hp,
      ih q hps (by simpa using hps q List.mem_cons_self)]
    rfl

theorem parseOperands_operandsChars {ps : List (List Char)} (h : ∀ p ∈ ps, IsPlain p) :
    parseOperands (operandsChars ps) = allOperands (ps.map parseOperand) := by
  cases ps with
  | nil => rfl
  | cons p ps =>
    have hne : trimBlanks (operandsChars (p :: ps)) ≠ [] := by
      obtain ⟨rest, hrest⟩ := exists_operandsChars_cons p ps
      obtain ⟨hp, hplain⟩ := h p List.mem_cons_self
      obtain ⟨c, hc⟩ := List.exists_mem_of_ne_nil p hp
      exact trimBlanks_ne_nil (hrest ▸ by simp [hc]) (isBlank_of_plainChar (hplain c hc))
    have hcomma : ∀ q ∈ p :: ps, ',' ∉ q := fun q hq hc => (plainChar_iff.1 ((h q hq).plain _ hc)).2.1 rfl
    rw [parseOperands, if_neg hne, splitCommas_operandsChars p ps hcomma, List.map_map]
    exact congrArg allOperands (List.map_congr_left fun q hq => congrArg parseOperand (h q hq).trimBlanks_cons)

theorem takeWhile_dropWhile_operandsChars (ps : List (List Char)) :
    (operandsChars ps).takeWhile (fun c => !isBlank c) = [] ∧
      (operandsChars ps).dropWhile (fun c => !isBlank c) = operandsChars ps := by
  cases ps with
  | nil => exact ⟨rfl, rfl⟩
  | cons p ps =>
    obtain ⟨rest, hrest⟩ := exists_operandsChars_cons p ps
    rw [hrest]
    exact ⟨rfl, rfl⟩

section Line

variable {m : List Char} {ps : List (List Char)} (hm : IsPlain m) (hps : ∀ p ∈ ps, IsPlain p)

include hm hps

/-- The line holds no comment. -/
theorem takeWhile_line : (m ++ operandsChars ps).takeWhile (fun c => !decide (c = ';')) = m ++ operandsChars ps := by
  have hplain {c : Char} (h : plainChar c = true) : (!decide (c = ';')) = true := by simp [(plainChar_iff.1 h).2.2]
  refine List.takeWhile_eq_self_iff.2 fun c hc => ?_
  rcases List.mem_append.1 hc with hc | hc
  · exact hplain (hm.plain c hc)
  · obtain rfl | rfl | ⟨p, hp, hc⟩ := mem_operandsChars hc
    · rfl
    · rfl
    · exact hplain ((hps p hp).plain c hc)

theorem trimBlanks_line : trimBlanks (m ++ operandsChars ps) = m ++ operandsChars ps := by
  refine trimBlanks_eq_self (fun c hc => ?_) fun c hc => ?_
  · rw [List.head?_append_of_ne_nil _ hm.ne_nil] at hc
    exact isBlank_of_plainChar (hm.plain c (List.mem_of_mem_head? hc))
  · rw [List.getLast?_append, Option.mem_def, Option.or_eq_some_iff] at hc
    rcases hc with hc | ⟨-, hc⟩
    · exact isBlank_of_plainChar (plainChar_getLast_operandsChars hps hc)
    · exact isBlank_of_plainChar (hm.plain c (List.mem_of_mem_getLast? hc))

/-- A line of a mnemonic and operands is read as the command they name. -/
theorem assembleChars_line {ops : List AsmOperand} {c : AsmCmd}
    (hops : allOperands (ps.map parseOperand) = some ops) (hc : commandOf m ops = .ok c) :
    assembleChars (m ++ operandsChars ps) = assemble c := by
  have hnonblank : ∀ d ∈ m, (!isBlank d) = true := fun d hd => by simp [isBlank_of_plainChar (hm.plain d hd)]
  simp [assembleChars, takeWhile_line hm hps, trimBlanks_line hm hps, hm.ne_nil,
    List.takeWhile_append_of_pos hnonblank, List.dropWhile_append_of_pos hnonblank, takeWhile_dropWhile_operandsChars,
    parseOperands_operandsChars hps, hops, hc]

end Line

/-! ## The disassembly of a legal word (R89) -/

/-- The mnemonic of a command (R81). -/
def mnemonic : Instr → String
  | .init _ _ => "INIT"
  | .read16 _ => "READ16"
  | .write16 _ _ => "WRITE16"
  | .pecclr => "PECCLR"
  | .pecbyte _ => "PECBYTE"
  | .delay _ => "DELAY"

/-- The operands of a command as numbers, in the order written. -/
def operandNumbers : Instr → List Nat
  | .init a u => [a.toNat, u.toNat]
  | .read16 r => [r.toNat]
  | .write16 r v => [r.toNat, v.toNat]
  | .pecclr => []
  | .pecbyte b => [b.toNat]
  | .delay ms => [ms.toNat]

theorem instrChars_eq (i : Instr) :
    instrChars i = (mnemonic i).toList ++ operandsChars ((operandNumbers i).map hexOperand) := by
  have htwo (m p q : List Char) : m ++ [' '] ++ p ++ [',', ' '] ++ q = m ++ operandsChars [p, q] := by
    simp [operandsChars]
  have hone (m p : List Char) : m ++ [' '] ++ p = m ++ operandsChars [p] := by simp [operandsChars]
  cases i with
  | init a u => exact htwo "INIT".toList (hexOperand a.toNat) (hexOperand u.toNat)
  | read16 r => exact hone "READ16".toList (hexOperand r.toNat)
  | write16 r v => exact htwo "WRITE16".toList (hexOperand r.toNat) (hexOperand v.toNat)
  | pecclr => rfl
  | pecbyte b => exact hone "PECBYTE".toList (hexOperand b.toNat)
  | delay ms => exact hone "DELAY".toList (hexOperand ms.toNat)

theorem commandOf_mnemonic (i : Instr) :
    commandOf (mnemonic i).toList ((operandNumbers i).map .number) = .ok (asmOfInstr i) := by
  cases i <;> simp [commandOf, mnemonic, operandNumbers, asmOfInstr, byteOperand]

theorem isPlain_mnemonic (i : Instr) : IsPlain (mnemonic i).toList := by
  refine ⟨?_, List.all_eq_true.1 ?_⟩ <;> cases i <;> simp only [mnemonic] <;> decide

theorem allOperands_hexOperand {ns : List Nat} (h : ∀ n ∈ ns, n < 2 ^ 16) :
    allOperands ((ns.map hexOperand).map parseOperand) = some (ns.map .number) := by
  induction ns with
  | nil => rfl
  | cons n ns ih =>
    rw [List.forall_mem_cons] at h
    simp only [List.map_cons, allOperands, parseOperand_hexOperand h.1, ih h.2, Option.map_some]

theorem operandNumbers_lt (i : Instr) : ∀ n ∈ operandNumbers i, n < 2 ^ 16 := by
  cases i <;> simp [operandNumbers] <;> omega

/-- Settles O55: the text of a command is a line of its mnemonic and its operands, read back as that command. -/
theorem disassemblyAssemblesBack : Obligations.DisassemblyAssemblesBack := by
  intro w hw
  obtain ⟨i, hi⟩ := legalWord_eq_true_iff.1 hw
  have hoperands : ∀ p ∈ (operandNumbers i).map hexOperand, IsPlain p := by
    rintro p hp
    obtain ⟨n, -, rfl⟩ := List.mem_map.1 hp
    exact isPlain_hexOperand n
  calc assembleChars (disassembleChars w)
      = assembleChars ((mnemonic i).toList ++ operandsChars ((operandNumbers i).map hexOperand)) := by
        rw [disassembleChars, hi, ← instrChars_eq]
    _ = assemble (asmOfInstr i) :=
        assembleChars_line (isPlain_mnemonic i) hoperands (allOperands_hexOperand (operandNumbers_lt i))
          (commandOf_mnemonic i)
    _ = .ok [w] := by rw [assemble_asmOfInstr, encode_of_decode hi]

end Sys2Proof.Machine

/-!
PROOF. The commands of EWRITE on the trace (R88): the erase and the value are sent in order with 10 ms after each, which
is what the hazards of R203 and R204 ask for.
-/

namespace Sys2Proof.Machine

theorem runInstrs_cons {i : Instr} {is : List Instr} {s t : State} (h : CommandRun s i t) :
    runInstrs (i :: is) s = runInstrs is t := by
  rw [runInstrs, h.exec_eq, andThen]

/-- The trace of an EWRITE whose erase is answered OK: the erase, the value, and 10 ms after each (R88). -/
def ewriteTrace (a : Addr7) (r : Byte) (erasePec : Byte) (lo hi pec : Byte) (ans : Answer) : List Event :=
  [{ call := .sendNStop a [r, 0#8, 0#8, erasePec] 4, answer := .ok },
   { call := .delay 10#16, answer := .noAnswer },
   { call := .sendNStop a [r, lo, hi, pec] 4, answer := ans },
   { call := .delay 10#16, answer := .noAnswer }]

theorem eepromWaitOk_ewriteTrace (a : Addr7) (r p lo hi p' : Byte) (ans : Answer) :
    eepromWaitOk (ewriteTrace a r p lo hi p' ans) = true := by
  cases hr : isEeprom r <;>
    simp [ewriteTrace, eepromWaitOk, eepromSendTo, waitedBeforeNext, busAddress, waitMs, hr]

theorem eepromValueWrite_sendNStop (a : Addr7) (r lo hi : Byte) (bs : List Byte) (n : Nat) :
    eepromValueWrite (.sendNStop a (r :: lo :: hi :: bs) n) = none ∨
      eepromValueWrite (.sendNStop a (r :: lo :: hi :: bs) n) = some (a, r) := by
  rw [eepromValueWrite]
  split_ifs
  · exact .inr rfl
  · exact .inl rfl

theorem eraseBeforeWriteOk_ewriteTrace (a : Addr7) (r p lo hi p' : Byte) (ans : Answer) :
    eraseBeforeWriteOk (ewriteTrace a r p lo hi p' ans) = true := by
  have hzero : eepromValueWrite (.sendNStop a [r, 0#8, 0#8, p] 4) = none := by simp [eepromValueWrite]
  have hwait : eepromValueWrite (.delay 10#16) = none := rfl
  have herased : erasedBefore a r 0
      [{ call := .delay 10#16, answer := .noAnswer }, { call := .sendNStop a [r, 0#8, 0#8, p] 4, answer := .ok }] =
      true := by
    simp [erasedBefore, writtenReg, isErase, waitMs]
  rcases eepromValueWrite_sendNStop a r lo hi [p'] 4 with h | h <;>
    simp [ewriteTrace, eraseBeforeWriteOk, eraseOkFrom, hzero, hwait, h, herased]

theorem CommandRun.write16_trace {r : Byte} {v : Half} {s t : State} (h : CommandRun s (.write16 r v) t) :
    t.block.devaddr = s.block.devaddr ∧
      t.transport.trace =
        s.transport.trace ++
          [{ call := s.frameCall r v, answer := answerOf (s.frameCall r v) (s.drawFor (s.frameCall r v)) }] := by
  cases h; exact ⟨rfl, rfl⟩

theorem CommandRun.delay_trace {ms : Half} {s t : State} (h : CommandRun s (.delay ms) t) :
    t.block.devaddr = s.block.devaddr ∧
      t.transport.trace = s.transport.trace ++ [{ call := .delay ms, answer := .noAnswer }] := by
  cases h; exact ⟨rfl, rfl⟩

/-- Settles O60: the four commands leave the trace of EWRITE, whatever the second send is answered. -/
theorem ewriteIsHazardFree : Obligations.EwriteIsHazardFree := by
  intro s r v htrace hok
  obtain ⟨s₁, herase⟩ := exists_commandRun (.write16 r 0#16) s
  obtain ⟨s₂, hwait⟩ := exists_commandRun (.delay 10#16) s₁
  obtain ⟨s₃, hwrite⟩ := exists_commandRun (.write16 r v) s₂
  obtain ⟨t, hwait'⟩ := exists_commandRun (.delay 10#16) s₃
  refine ⟨t, ?_, ?_⟩
  · rw [expandEwrite, runInstrs_cons herase, runInstrs_cons hwait, runInstrs_cons hwrite, runInstrs_cons hwait',
      runInstrs]
  · obtain ⟨ha₁, ht₁⟩ := herase.write16_trace
    obtain ⟨ha₂, ht₂⟩ := hwait.delay_trace
    obtain ⟨-, ht₃⟩ := hwrite.write16_trace
    obtain ⟨-, ht₄⟩ := hwait'.delay_trace
    have ht : t.transport.trace =
        ewriteTrace s.block.devaddr r (writePec s.block.devaddr r 0#16) (lowByte v) (highByte v)
          (writePec s.block.devaddr r v) (answerOf (s₂.frameCall r v) (s₂.drawFor (s₂.frameCall r v))) := by
      rw [ht₄, ht₃, ht₂, ht₁, htrace, State.frameCall, answerOf, if_pos hok, State.frameCall, ha₂, ha₁]
      rfl
    rw [hazardFree, ht, eraseBeforeWriteOk_ewriteTrace, eepromWaitOk_ewriteTrace, Bool.and_self]

end Sys2Proof.Machine

/-!
PROOF. The checksum engine: the table (R101, R104), linearity and the other laws of `pec` (R102, R105), and the checksum
commands (R110, R111) with their frame. XOR-first, the step is `shift8` (`crc8Step_eq_shift8`), so a law of the step is a
law of `shift8`.
-/

namespace Sys2Proof.Machine

/-! ## The table form of the step (R101, R104) -/

/-- The rows of R104, one after the other, are `shift8` of 0x00 to 0xFF. -/
theorem crcTable_rows :
    crcTableLow ++ crcTableHigh = (List.range 256).map fun n => (shift8 (BitVec.ofNat 8 n)).toNat := by
  decide +kernel

theorem crcTable_eq_shift8 (x : Byte) : crcTable x = shift8 x := by
  have hx : x.toNat < 256 := x.isLt
  simp [crcTable, crcTable_rows, List.getD_eq_getElem?_getD, hx]

theorem crc8Step_eq_crcTable (acc b : Byte) : crc8Step acc b = crcTable (acc ^^^ b) := by
  rw [crc8Step_eq_shift8, crcTable_eq_shift8]

/-- Settles O8: the XOR-first form is `crc8Step_eq_shift8`, and the table lists `shift8`. -/
theorem crcFormsAgree : Obligations.CrcFormsAgree := fun acc b =>
  ⟨crc8Step_eq_shift8 acc b, crc8Step_eq_crcTable acc b⟩

/-- Settles O9: the table form at an accumulator of 0. -/
theorem crcTableIsTheStepFromZero : Obligations.CrcTableIsTheStepFromZero := fun x => by
  rw [crc8Step_eq_crcTable, BitVec.zero_xor]

/-! ## Linearity (R105) -/

/-- One iteration is linear: the XORs with `crcPoly` cancel when both top bits are set. -/
theorem shiftBit_xor (x y : Byte) : shiftBit (x ^^^ y) = shiftBit x ^^^ shiftBit y := by
  simp only [shiftBit, BitVec.msb_xor, BitVec.shiftLeft_xor_distrib]
  have hcancel (u v : Byte) : (u ^^^ crcPoly) ^^^ (v ^^^ crcPoly) = u ^^^ v := by
    rw [BitVec.xor_assoc, BitVec.xor_comm v, ← BitVec.xor_assoc crcPoly, BitVec.xor_self, BitVec.zero_xor]
  cases x.msb <;> cases y.msb
  case false.false => rfl
  case false.true => exact BitVec.xor_assoc ..
  case true.false => exact show (x <<< 1 ^^^ y <<< 1) ^^^ crcPoly = (x <<< 1 ^^^ crcPoly) ^^^ y <<< 1 by ac_rfl
  case true.true => exact (hcancel ..).symm

theorem shiftBits_xor (n : Nat) (x y : Byte) : shiftBits n (x ^^^ y) = shiftBits n x ^^^ shiftBits n y := by
  induction n generalizing x y with
  | zero => rfl
  | succ n ih => simp only [shiftBits_succ, shiftBit_xor, ih]

theorem crc8Step_xor (a₁ a₂ b₁ b₂ : Byte) :
    crc8Step (a₁ ^^^ a₂) (b₁ ^^^ b₂) = crc8Step a₁ b₁ ^^^ crc8Step a₂ b₂ := by
  simp only [crc8Step_eq_shift8, shift8, ← shiftBits_xor]
  ac_rfl

/-- Linearity from any two accumulators, as the induction needs it. -/
theorem pecFrom_xor {s₁ s₂ : List Byte} (h : s₁.length = s₂.length) (a₁ a₂ : Byte) :
    pecFrom (a₁ ^^^ a₂) (List.zipWith (fun x y => x ^^^ y) s₁ s₂) = pecFrom a₁ s₁ ^^^ pecFrom a₂ s₂ := by
  induction s₁ generalizing s₂ a₁ a₂ with
  | nil => rw [List.length_eq_zero_iff.1 h.symm]; rfl
  | cons x xs ih =>
    obtain ⟨y, ys, rfl⟩ := List.exists_cons_of_length_eq_add_one h.symm
    rw [List.zipWith_cons_cons, pecFrom_cons, crc8Step_xor, ih (Nat.succ.inj h), pecFrom_cons, pecFrom_cons]

/-- Settles O10: both accumulators of `pecFrom_xor` start at 0. -/
theorem pecIsLinear : Obligations.PecIsLinear := fun _ _ h => pecFrom_xor h 0x00#8 0x00#8

/-! ## Leading zeros, the append check and composition (R105) -/

theorem pecFrom_append (acc : Byte) (s₁ s₂ : List Byte) :
    pecFrom acc (s₁ ++ s₂) = pecFrom (pecFrom acc s₁) s₂ := List.foldl_append

theorem pec_zero_cons (bytes : List Byte) : pec (0x00#8 :: bytes) = pec bytes := by
  rw [pec, pecFrom_cons, crc8Step_self, pec]

/-- Settles O11: its three laws are `pec_zero_cons`, `pec_append_pec` and `pecFrom_append`. -/
theorem pecAppendsAndComposes : Obligations.PecAppendsAndComposes :=
  ⟨pec_zero_cons, pec_append_pec, pecFrom_append 0x00#8⟩

/-! ## PECCLR and PECBYTE (R110, R111), and what they and DELAY leave alone -/

/-- Settles O27: it is the one run of PECCLR. -/
theorem pecclrCompletes : Obligations.PecclrCompletes := fun _ => CommandRun.pecclr.exec_eq

/-- Settles O28: it is the one run of PECBYTE, with the step in its table form. -/
theorem pecbyteCompletes : Obligations.PecbyteCompletes := fun s byte => by
  rw [← crc8Step_eq_crcTable]
  exact (CommandRun.pecbyte byte).exec_eq

/-- Settles O30: each of the three commands has one run, and its updates name all it writes. -/
theorem checksumAndDelayFrame : Obligations.ChecksumAndDelayFrame := by
  rintro s t i h (rfl | ⟨byte, rfl⟩ | ⟨ms, rfl⟩)
  all_goals
    cases exec_next_iff.1 h
    simp

/-- PECBYTEs after a completed checksum command continue the CRC from the ACC it left. -/
theorem runInstrs_map_pecbyte (s : State) (acc : Byte) (bytes : List Byte) :
    runInstrs (bytes.map Instr.pecbyte) (s.setAcc acc).complete = .next (s.setAcc (pecFrom acc bytes)).complete := by
  induction bytes generalizing acc with
  | nil => rfl
  | cons b bs ih =>
    rw [List.map_cons, runInstrs_cons (.pecbyte b), pecFrom_cons]
    exact ih (crc8Step acc b)

/-- Settles O31: PECCLR leaves ACC = 0x00, where `pec` starts, and the PECBYTEs go on from it. -/
theorem pecCommandsStreamPec : Obligations.PecCommandsStreamPec := fun s bytes => by
  rw [runInstrs_cons .pecclr]
  exact runInstrs_map_pecbyte s 0x00#8 bytes

end Sys2Proof.Machine

/-!
PROOF. The framer (R121, R131 to R133): the split and the assembly of a value, and the write frame, as numbers; and the
two register transport commands, READ16 (R120) and WRITE16 (R130), each outcome with the whole state it leaves.
-/

namespace Sys2Proof.Machine

/-! ## The split and the assembly of a value (R121, R131) -/

theorem lowByte_eq_ofNat (v : Half) : lowByte v = BitVec.ofNat 8 (v.toNat % 256) := by
  apply BitVec.eq_of_toNat_eq
  simp [lowByte]

theorem highByte_eq_ofNat (v : Half) : highByte v = BitVec.ofNat 8 (v.toNat / 256) :=
  congrArg (BitVec.ofNat 8) (Nat.shiftRight_eq_div_pow v.toNat 8)

/-- The second byte received stands above the first. -/
theorem assemble16_eq_append (b0 b1 : Byte) : assemble16 b0 b1 = b1 ++ b0 := by
  rw [assemble16, BitVec.or_comm, ← BitVec.setWidth_append_eq_shiftLeft_setWidth_or]
  exact BitVec.setWidth_eq (b1 ++ b0)

theorem assemble16_toNat (b0 b1 : Byte) : (assemble16 b0 b1).toNat = b0.toNat + 256 * b1.toNat := by
  rw [assemble16_eq_append, BitVec.toNat_append, ← Nat.shiftLeft_add_eq_or_of_lt b0.isLt, Nat.shiftLeft_eq]
  omega

theorem assemble16_eq_ofNat (b0 b1 : Byte) :
    assemble16 b0 b1 = BitVec.ofNat 16 (b0.toNat + 256 * b1.toNat) := by
  rw [← assemble16_toNat, BitVec.ofNat_toNat, BitVec.setWidth_eq]

/-- Settles O14: the assembly is a concatenation, and the split reads its two parts. -/
theorem assemblyInvertsTheSplit : Obligations.AssemblyInvertsTheSplit := by
  refine ⟨fun v => ?_, fun b0 b1 => ?_, assemble16_toNat⟩
  · rw [assemble16_eq_append]
    exact BitVec.extractLsb'_append_extractLsb'
  · rw [assemble16_eq_append]
    exact ⟨BitVec.extractLsb'_append_eq_right, BitVec.extractLsb'_append_eq_left⟩

/-! ## The write frame (R130, R132) -/

theorem writeAddressByte_eq_ofNat (a : Addr7) : writeAddressByte a = BitVec.ofNat 8 (2 * a.toNat) := by
  apply BitVec.eq_of_toNat_eq
  simp [writeAddressByte, Nat.shiftLeft_eq, Nat.mul_comm]

/-- Settles O15: with the operands read as numbers, this is how `writeFrame` is built. -/
theorem writeFrameHoldsPayloadAndPec : Obligations.WriteFrameHoldsPayloadAndPec := by
  intro a r v
  simp only [← lowByte_eq_ofNat, ← highByte_eq_ofNat, ← writeAddressByte_eq_ofNat]
  rfl

/-- Settles O16: it is the receiver's check of R133. -/
theorem writeFrameChecksToZero : Obligations.WriteFrameChecksToZero := fun a r v => by
  rw [← writeAddressByte_eq_ofNat]
  exact receiverCheck_writeFrame a r v

/-! ## A call whose answer is known (R59) -/

theorem State.issue_of_answer {s : State} {c : Call} {ans : Answer} (h : answerOf c (s.drawFor c) = ans) :
    s.issue c =
      { s with
        transport :=
          { trace := s.transport.trace ++ [{ call := c, answer := ans }]
            answers := s.transport.answers.tail
            draws := s.transport.draws + 1 } } := by
  rw [State.issue, h]

/-! ## READ16 (R120) -/

theorem answerOf_receiveCall {s : State} {d : Draw} {ok : Bool} (h : d.ok = ok) :
    answerOf s.receiveCall d = if ok then .bytes [d.b0, d.b1, d.b2] else .fail := by
  rw [State.receiveCall, answerOf, h]

/-- The state after both phases, the pointer phase answered OK. -/
theorem State.received_of_answers {s : State} {r : Byte} {ok : Bool} (hp : (s.drawFor (s.pointerCall r)).ok = true)
    (hr : (s.receiveDraw r).ok = ok) :
    s.received r =
      { s with
        block.busheld := false
        transport :=
          { trace := s.transport.trace ++
              [{ call := s.pointerCall r, answer := .ok },
               { call := s.receiveCall
                 answer :=
                   if ok then .bytes [(s.receiveDraw r).b0, (s.receiveDraw r).b1, (s.receiveDraw r).b2]
                   else .fail }]
            answers := s.transport.answers.tail.tail
            draws := s.transport.draws + 2 } } := by
  have hrecv := answerOf_receiveCall (s := s) hr
  rw [State.received, issue_of_answer hrecv, issue_of_answer (answerOf_pointerCall hp), List.append_assoc]
  rfl

/-- Settles O20: it is the run of READ16 with both phases answered OK. -/
theorem read16Completes : Obligations.Read16Completes := by
  intro s r _ _ hp hr
  rw [(CommandRun.readOk r hp hr).exec_eq, State.received_of_answers hp hr, assemble16_eq_ofNat]
  rfl

/-- Settles O22: it is the run of READ16 with the receive answered FAIL. -/
theorem read16ReceiveFailure : Obligations.Read16ReceiveFailure := by
  intro s r _ hp hr
  rw [(CommandRun.readRecvFail r hp hr).exec_eq, State.received_of_answers hp hr]
  rfl

/-- Settles O21: it is the run of READ16 with the pointer phase answered FAIL. -/
theorem read16PointerFailure : Obligations.Read16PointerFailure := by
  intro s r hp
  rw [(CommandRun.readPtrFail r hp).exec_eq, State.issue_of_answer (c := s.pointerCall r) (answerOf_pointerCall hp)]
  rfl

/-- The pointer phase leaves the bus held exactly when it is answered OK (R31). -/
@[simp] theorem State.send1RS_block_busheld (s : State) (a : Addr7) (r : Byte) :
    (s.send1RS a r).block.busheld = (s.drawFor (.send1RS a r)).ok := rfl

/-- The receive ends BUSHELD whatever it is answered (R31). -/
@[simp] theorem State.recv3_block_busheld (s : State) (a : Addr7) : (s.recv3 a).block.busheld = false := rfl

/-- Settles O23: each run of READ16 shows what it writes, and the two phases write BUSHELD. -/
theorem read16Frame : Obligations.Read16Frame := by
  refine ⟨fun s t r h => ?_, fun s a r => ?_, State.recv3_block_busheld⟩
  · cases exec_next_iff.1 h <;> simp
  · rw [State.send1RS_block_busheld]
    exact ⟨id, id⟩

/-! ## WRITE16 (R130) -/

theorem answerOf_frameCall {s : State} {r : Byte} {v : Half} {d : Draw} {ok : Bool} (h : d.ok = ok) :
    answerOf (s.frameCall r v) d = if ok then .ok else .fail := by
  rw [State.frameCall, answerOf, h]

/-- WRITE16 for either answer to its send: only the answer in the trace and STATUS depend on it. -/
theorem exec_write16_of_answer {s : State} {r : Byte} {v : Half} {ok : Bool}
    (h : (s.drawFor (s.frameCall r v)).ok = ok) :
    exec (.write16 r v) s =
      .next
        { s with
          block.acc := writePec s.block.devaddr r v
          block.txframe := some (writeFrame s.block.devaddr r v)
          block.status := endStatus ok .send
          transport :=
            { trace := s.transport.trace ++ [{ call := s.frameCall r v, answer := if ok then .ok else .fail }]
              answers := s.transport.answers.tail
              draws := s.transport.draws + 1 } } := by
  have hsend : answerOf (s.frameCall r v) ((write16Build r v s).drawFor (s.frameCall r v)) = _ := answerOf_frameCall h
  rw [(CommandRun.write r v).exec_eq, State.frameSent, State.issue_of_answer hsend, h]
  rfl

/-- Settles O24: it is `exec_write16_of_answer` for OK, with the operands read as numbers. -/
theorem write16Completes : Obligations.Write16Completes := by
  intro s r v
  simp only [← lowByte_eq_ofNat, ← highByte_eq_ofNat, ← writeAddressByte_eq_ofNat]
  exact exec_write16_of_answer

/-- Settles O25: it is `exec_write16_of_answer` for FAIL, with the operands read as numbers. -/
theorem write16SendFailure : Obligations.Write16SendFailure := by
  intro s r v
  simp only [← lowByte_eq_ofNat, ← highByte_eq_ofNat, ← writeAddressByte_eq_ofNat]
  exact exec_write16_of_answer

/-- Settles O26: the one run of WRITE16 shows what it writes. -/
theorem write16Frame : Obligations.Write16Frame := by
  intro s t r v h
  cases exec_next_iff.1 h
  simp

end Sys2Proof.Machine

/-!
PROOF. The control commands, INIT (R150) and DELAY (R151), and the command program under stop at first failure (R160,
R161): what one step of a program does, that an ended program is idle (R185), and that every program ends.
-/

namespace Sys2Proof.Machine

/-! ## INIT (R150) and DELAY (R151) -/

/-- INIT with AUTO = 0 issues no call. -/
theorem exec_init_quiet (s : State) (a : Addr7) :
    exec (.init a 0#1) s =
      .next { s with block.devaddr := a, block.autoinit := 0#1, block.status := 0x11#5 } :=
  (CommandRun.initQuiet a 0#1 (by decide)).exec_eq

/-- INIT with AUTO = 1 for either answer to `InitBus`: only the answer in the trace and STATUS depend on it. -/
theorem exec_init_of_answer {s : State} {ok : Bool} (h : (s.drawFor .initBus).ok = ok) (a : Addr7) :
    exec (.init a 1#1) s =
      .next
        { s with
          block.devaddr := a
          block.autoinit := 1#1
          block.status := endStatus ok .businit
          transport :=
            { trace := s.transport.trace ++ [{ call := .initBus, answer := if ok then .ok else .fail }]
              answers := s.transport.answers.tail
              draws := s.transport.draws + 1 } } := by
  have hanswer : answerOf .initBus ((s.setDevice a 1#1).drawFor .initBus) = if ok then .ok else .fail := by
    rw [drawFor_congr (State.setDevice_transport s a 1#1), answerOf, h]
  rw [(CommandRun.initBus a 1#1 rfl).exec_eq, State.issue_of_answer hanswer, h]
  rfl

theorem CommandRun.init_stores {a : Addr7} {u : BitVec 1} {s t : State} (h : CommandRun s (.init a u) t) :
    t.block.devaddr = a ∧ t.block.autoinit = u ∧ statusValid t.block.status = true := by
  refine ⟨by cases h <;> simp, h.init_autoinit, ?_⟩
  obtain hst | hst | hst | hst | hst := h.status_outcome <;> rw [hst] <;> rfl

/-- Settles O17: every run of INIT stores its operands, and the run that succeeds is written out for each AUTO bit. -/
theorem initCompletes : Obligations.InitCompletes := by
  refine fun s a => ⟨fun u => ?_, exec_init_quiet s a, fun hok => exec_init_of_answer hok a⟩
  obtain ⟨t, hrun⟩ := exists_commandRun (.init a u) s
  exact ⟨t, hrun.exec_eq, hrun.init_stores⟩

/-- Settles O18: it is `exec_init_of_answer` for FAIL. -/
theorem initBusFailure : Obligations.InitBusFailure := fun _ a hfail => exec_init_of_answer hfail a

/-- Settles O19: each run of INIT shows what it writes, and the one that issues a call has AUTO = 1. -/
theorem initFrame : Obligations.InitFrame := by
  intro s t a u h
  cases exec_next_iff.1 h with
  | initQuiet => simp
  | initBus _ _ hu => simp [hu]

/-- Settles O29: it is the one run of DELAY. -/
theorem delayCompletes : Obligations.DelayCompletes := fun _ ms => (CommandRun.delay ms).exec_eq

/-! ## Stop at first failure (R161) -/

theorem applyPolicy_of_ok_of_lt {s : State} (hok : statusOk s.block.status = true)
    (hlt : s.host.index + 1 < s.host.program.length) :
    applyPolicy s = { s with host.index := s.host.index + 1 } := by
  rw [applyPolicy, if_pos hok, if_pos hlt]

theorem applyPolicy_of_ok_of_not_lt {s : State} (hok : statusOk s.block.status = true)
    (hlt : ¬s.host.index + 1 < s.host.program.length) :
    applyPolicy s = { s with host.programEnd := some .success } := by
  rw [applyPolicy, if_pos hok, if_neg hlt]

theorem applyPolicy_of_failed {s : State} (hfail : statusOk s.block.status = false) :
    applyPolicy s = { s with host.programEnd := some (.failure s.host.index) } := by
  rw [applyPolicy, if_neg (ne_true_of_eq_false hfail)]

/-- R161 writes nothing but the index and the end of the program. -/
theorem applyPolicy_eq (s : State) :
    applyPolicy s =
      { s with
        host.index := (applyPolicy s).host.index
        host.programEnd := (applyPolicy s).host.programEnd } := by
  unfold applyPolicy; split
  · split <;> rfl
  · rfl

theorem applyPolicy_pending (s : State) : (applyPolicy s).host.pending = s.host.pending := by
  rw [applyPolicy_eq]

theorem applyPolicy_program (s : State) : (applyPolicy s).host.program = s.host.program := by
  rw [applyPolicy_eq]

/-! ## The step on the command program (R160, R161, R185) -/

/-- With nothing pending, the step runs the program's next word, notes the STATUS read and applies R161. -/
theorem step_of_nextWord {s t : State} {w : Word} (hpend : s.host.pending = []) (hw : nextWord s.host = some w)
    (hrun : runWord w s = .next t) :
    step s = .next (applyPolicy (t.logRead 0x04 (.value (statusWord t.block.status)))) := by
  rw [step, hostStep, hpend, hw]
  simp only [programStep_eq, hrun, andThen]

/-- With nothing pending and no next word the block is idle. -/
theorem step_of_nextWord_none {s : State} (hpend : s.host.pending = []) (hw : nextWord s.host = none) :
    step s = .next s := by
  rw [step, hostStep, hpend, hw]

theorem nextWord_eq_none_iff {h : HostSide} :
    nextWord h = none ↔ h.programEnd.isSome ∨ h.program.length ≤ h.index := by
  unfold nextWord
  cases h.programEnd <;> simp

/-- Settles O48: an ended program and one with no word left have no next word. -/
theorem endedProgramIssuesNothing : Obligations.EndedProgramIssuesNothing := fun _ hpend hended =>
  step_of_nextWord_none hpend (nextWord_eq_none_iff.2 hended)

/-- Settles O47: the word leaves the host's side alone, and each case of R161 says where the index goes. -/
theorem programStepStopsAtFirstFailure : Obligations.ProgramStepStopsAtFirstFailure := by
  intro s t w hpend hend hw hrun
  have hhost : t.host = s.host := runWord_host hrun
  refine ⟨_, step_of_nextWord hpend (nextWord_eq_some_iff.2 ⟨hend, hw⟩) hrun, ?_, ?_, ?_, ?_, ?_, ?_, ?_, ?_⟩
  · rw [applyPolicy_block, State.logRead_block]
  · rw [applyPolicy_transport, State.logRead_transport]
  · rw [applyPolicy_pending, State.logRead_host_pending, hhost, hpend]
  · rw [applyPolicy_program, State.logRead_host_program, hhost]
  · rw [applyPolicy_hostReads, State.logRead_host_hostReads, hhost]
  · intro hok hlt
    simp [applyPolicy_of_ok_of_lt, hok, hlt, hhost, hend]
  · intro hok hlast
    simp [applyPolicy_of_ok_of_not_lt, hok, hlast, hhost]
  · intro hfail
    simp [applyPolicy_of_failed, hfail, hhost]

/-! ## Every command program ends (R160, R161) -/

/-- A running program's step always has a next state: the program has failed at its word, has succeeded with its last
word, or goes on at the next one. -/
theorem step_of_running {s : State} (hpend : s.host.pending = []) (hend : s.host.programEnd = none)
    (hlt : s.host.index < s.host.program.length) :
    ∃ u, step s = .next u ∧ u.host.pending = [] ∧ u.host.program = s.host.program ∧
      (u.host.programEnd = some (.failure s.host.index) ∨
        u.host.programEnd = some .success ∧ s.host.index + 1 = s.host.program.length ∨
        u.host.programEnd = none ∧ u.host.index = s.host.index + 1 ∧
          s.host.index + 1 < s.host.program.length) := by
  obtain ⟨t, hrun⟩ := exists_runWord_next (s.host.program[s.host.index]) s
  obtain ⟨u, hstep, -, -, hpend', hprog, -, hmore, hlast, hfail⟩ :=
    programStepStopsAtFirstFailure s t _ hpend hend (List.getElem?_eq_getElem hlt) hrun
  refine ⟨u, hstep, hpend', hprog, ?_⟩
  cases hok : statusOk t.block.status with
  | false => exact .inl (hfail hok).2
  | true =>
    obtain hlt' | heq := Nat.lt_or_eq_of_le (Nat.succ_le_of_lt hlt)
    · exact .inr (.inr ⟨(hmore hok hlt').2, (hmore hok hlt').1, hlt'⟩)
    · exact .inr (.inl ⟨(hlast hok heq).2, heq⟩)

/-- A running program with `k` words after the current one ends in at most `k + 1` steps, in success only after all of
them. -/
theorem run_ends_of_running {k : Nat} {s : State} (hpend : s.host.pending = []) (hend : s.host.programEnd = none)
    (hlen : s.host.program.length = s.host.index + k + 1) :
    ∃ n t, n ≤ k ∧ Sys2Proof.core.run (n + 1) s = .next t ∧
      (t.host.programEnd = some .success ∧ n = k ∨ t.host.programEnd = some (.failure (s.host.index + n))) := by
  induction k generalizing s with
  | zero =>
    obtain ⟨u, hstep, -, -, hfail | ⟨hsucc, -⟩ | ⟨-, -, hlt⟩⟩ := step_of_running hpend hend (by omega)
    · exact ⟨0, u, Nat.le_refl 0, run_succ_of_step hstep 0, .inr hfail⟩
    · exact ⟨0, u, Nat.le_refl 0, run_succ_of_step hstep 0, .inl ⟨hsucc, rfl⟩⟩
    · omega
  | succ k ih =>
    obtain ⟨u, hstep, hpend', hprog, hfail | ⟨-, hlast⟩ | ⟨hend', hindex, -⟩⟩ :=
      step_of_running hpend hend (by omega)
    · exact ⟨0, u, Nat.zero_le _, run_succ_of_step hstep 0, .inr hfail⟩
    · omega
    · obtain ⟨n, t, hn, hrun, hended⟩ := ih hpend' hend' (by rw [hprog, hindex]; omega)
      refine ⟨n + 1, t, Nat.succ_le_succ hn, (run_succ_of_step hstep (n + 1)).trans hrun, ?_⟩
      obtain ⟨hsucc, rfl⟩ | hfail := hended
      · exact .inl ⟨hsucc, rfl⟩
      · exact .inr (by rw [hfail, hindex, Nat.add_right_comm, Nat.add_assoc])

/-- Settles O49: a program of no words has ended as loaded, any other runs from index 0. -/
theorem everyCommandProgramEnds : Obligations.EveryCommandProgramEnds := by
  intro s p hpend
  cases p with
  | nil => exact ⟨0, s.loadProgram [], Nat.le_refl 0, rfl, .inl ⟨rfl, rfl⟩⟩
  | cons w ws =>
    obtain ⟨n, t, hn, hrun, hended⟩ :=
      run_ends_of_running (k := ws.length) (s := s.loadProgram (w :: ws)) hpend rfl (by simp)
    refine ⟨n + 1, t, Nat.succ_le_succ hn, hrun, ?_⟩
    obtain ⟨hsucc, rfl⟩ | hfail := hended
    · exact .inl ⟨hsucc, rfl⟩
    · exact .inr ⟨by simpa using hfail, Nat.succ_pos n⟩

end Sys2Proof.Machine

/-!
PROOF. How a command ends (60_exceptions.md): an illegal word raises IllegalCommand and does nothing else (R173), and no
command reads STATUS, which every command overwrites whole (R177).
-/

namespace Sys2Proof.Machine

/-- Settles O34: an illegal word raises IllegalCommand, which writes STATUS alone. -/
theorem illegalWordWritesOnlyStatus : Obligations.IllegalWordWritesOnlyStatus := fun w s hw =>
  calc runWord w s = .next s.raiseIllegalCommand := runWord_of_illegal hw s
    _ = .next { s with block.status := 0x1A#5 } := congrArg _ s.raiseIllegalCommand_eq

/-- A run from a state is a run from that state with another STATUS, to the same end: its draws and writes do not read
STATUS, and its last write is STATUS. -/
theorem CommandRun.from_setStatus {i : Instr} {s t : State} (h : CommandRun s i t) (st : BitVec 5) :
    CommandRun (s.setStatus st) i t := by
  cases h with
  | initQuiet a u hu => exact .initQuiet a u hu
  | initBus a u hu => exact .initBus a u hu
  | readPtrFail r hp => exact .readPtrFail r hp
  | readRecvFail r hp hr => exact .readRecvFail r hp hr
  | readOk r hp hr => exact .readOk r hp hr
  | write r v => exact .write r v
  | pecclr => exact .pecclr
  | pecbyte b => exact .pecbyte b
  | delay ms => exact .delay ms

/-- Settles O35: the run from `s` is also the run from `s` with the other STATUS. -/
theorem noCommandReadsStatus : Obligations.NoCommandReadsStatus := by
  intro i s st
  obtain ⟨t, hrun⟩ := exists_commandRun i s
  calc exec i (s.setStatus st) = .next t := (hrun.from_setStatus st).exec_eq
    _ = exec i s := hrun.exec_eq.symm

end Sys2Proof.Machine

/-!
PROOF. The hazards of a trace (R203, R204) and reset (R200, R201). Each hazard check walks the trace event by event;
its lemma says what the walk means over every way of splitting the trace at an event, proved by induction on the trace.
-/

namespace Sys2Proof.Machine

/-! ## The splits of a list at an element -/

theorem forall_split_cons_iff {α : Type} {P : List α → α → List α → Prop} {x : α} {xs : List α} :
    (∀ before e after, x :: xs = before ++ e :: after → P before e after) ↔
      P [] x xs ∧ ∀ before e after, xs = before ++ e :: after → P (x :: before) e after := by
  constructor
  · exact fun h => ⟨h [] x xs rfl, fun before e after hsplit => h (x :: before) e after (congrArg _ hsplit)⟩
  · rintro ⟨hhead, htail⟩ (_ | ⟨y, before⟩) e after hsplit <;> cases hsplit
    · exact hhead
    · exact htail before e after rfl

theorem exists_split_cons_iff {α : Type} {P : List α → α → List α → Prop} {x : α} {xs : List α} :
    (∃ before e after, x :: xs = before ++ e :: after ∧ P before e after) ↔
      P [] x xs ∨ ∃ before e after, xs = before ++ e :: after ∧ P (x :: before) e after := by
  constructor
  · rintro ⟨_ | ⟨y, before⟩, e, after, hsplit, hP⟩ <;> cases hsplit
    · exact .inl hP
    · exact .inr ⟨before, e, after, rfl, hP⟩
  · rintro (hP | ⟨before, e, after, rfl, hP⟩)
    · exact ⟨[], x, xs, rfl, hP⟩
    · exact ⟨x :: before, e, after, rfl, hP⟩

/-! ## The wait after an EEPROM send (R204) -/

/-- A call to `a` at the head is the next one, and no later call is; any other call counts towards the wait. -/
theorem waitedBeforeNext_iff {a : Addr7} {waited : Nat} {es : List Event} :
    waitedBeforeNext a waited es = true ↔
      ∀ between e' after, es = between ++ e' :: after → (∀ m ∈ between, busAddress m.call ≠ some a) →
        busAddress e'.call = some a → 10 ≤ waited + (between.map fun m => waitMs m.call).sum := by
  induction es generalizing waited with
  | nil => simp [waitedBeforeNext]
  | cons e es ih =>
    rw [forall_split_cons_iff, waitedBeforeNext]
    split
    · next haddr => simp [haddr]
    · next haddr => simp [haddr, ih, Nat.add_assoc]

theorem eepromWaitOk_iff {trace : List Event} :
    eepromWaitOk trace = true ↔
      ∀ before e rest, trace = before ++ e :: rest → ∀ a, eepromSendTo e.call = some a →
        waitedBeforeNext a 0 rest = true := by
  induction trace with
  | nil => simp [eepromWaitOk]
  | cons e es ih =>
    rw [forall_split_cons_iff, eepromWaitOk, Bool.and_eq_true, ih]
    cases eepromSendTo e.call <;> simp

/-- Settles O58: after each EEPROM send the check is `waitedBeforeNext`, with no wait counted yet. -/
theorem eepromWaitMeansTenMilliseconds : Obligations.EepromWaitMeansTenMilliseconds := by
  intro trace
  rw [eepromWaitOk_iff]
  constructor
  · intro h before between after e e' a htrace hsend hbetween haddr
    simpa using waitedBeforeNext_iff.1 (h before e _ htrace a hsend) between e' after rfl hbetween haddr
  · intro h before e rest htrace a hsend
    refine waitedBeforeNext_iff.2 fun between e' after hrest hbetween haddr => ?_
    simpa using h before between after e e' a (hrest ▸ htrace) hsend hbetween haddr

/-! ## The erase before an EEPROM value write (R203) -/

theorem writtenReg_of_isErase {a : Addr7} {reg : Byte} {e : Event} (h : isErase a reg e = true) :
    writtenReg e.call = some reg := by
  unfold isErase at h
  split at h
  · next hcall =>
    obtain ⟨-, hreg, -⟩ := of_decide_eq_true h
    rw [hcall, writtenReg, hreg]
  · cases h

/-- A write of `reg` at the head must be the erase, and no earlier event can be; any other event counts towards the wait
and cannot be the erase. -/
theorem erasedBefore_iff {a : Addr7} {reg : Byte} {waited : Nat} {past : List Event} :
    erasedBefore a reg waited past = true ↔
      ∃ between er earlier, past = between ++ er :: earlier ∧ isErase a reg er = true ∧
        (∀ m ∈ between, writtenReg m.call ≠ some reg) ∧
        10 ≤ waited + (between.map fun m => waitMs m.call).sum := by
  induction past generalizing waited with
  | nil => simp [erasedBefore]
  | cons e past ih =>
    rw [exists_split_cons_iff, erasedBefore]
    split
    · next hreg => simp [hreg]
    · next hreg =>
      have herase : isErase a reg e ≠ true := fun h => hreg (writtenReg_of_isErase h)
      simp [hreg, herase, ih, Nat.add_assoc]

/-- The events before a write are the reverse of the list `erasedBefore` walks. -/
theorem erasedBefore_reverse_iff {a : Addr7} {reg : Byte} {before : List Event} :
    erasedBefore a reg 0 before.reverse = true ↔
      ∃ earlier between er, before = earlier ++ er :: between ∧ isErase a reg er = true ∧
        (∀ m ∈ between, writtenReg m.call ≠ some reg) ∧ 10 ≤ (between.map fun m => waitMs m.call).sum := by
  rw [erasedBefore_iff]
  constructor
  · rintro ⟨between, er, earlier, hsplit, herase, hbetween, hwait⟩
    refine ⟨earlier.reverse, between.reverse, er, ?_, herase, by simpa using hbetween, ?_⟩
    · simp [List.reverse_eq_iff.1 hsplit]
    · simpa [List.sum_reverse] using hwait
  · rintro ⟨earlier, between, er, rfl, herase, hbetween, hwait⟩
    refine ⟨between.reverse, er, earlier.reverse, by simp, herase, by simpa using hbetween, ?_⟩
    simpa [List.sum_reverse] using hwait

theorem eraseOkFrom_iff {past es : List Event} :
    eraseOkFrom past es = true ↔
      ∀ before e after, es = before ++ e :: after → ∀ a reg, eepromValueWrite e.call = some (a, reg) →
        erasedBefore a reg 0 (before.reverse ++ past) = true := by
  induction es generalizing past with
  | nil => simp [eraseOkFrom]
  | cons e es ih =>
    rw [forall_split_cons_iff, eraseOkFrom, Bool.and_eq_true, ih]
    rcases eepromValueWrite e.call with _ | ⟨a, reg⟩ <;> simp

/-- Settles O59: before each value write the check is `erasedBefore` on the events before it, newest first. -/
theorem eraseComesBeforeEveryValueWrite : Obligations.EraseComesBeforeEveryValueWrite := by
  intro trace
  simp only [eraseBeforeWriteOk, eraseOkFrom_iff, List.append_nil, erasedBefore_reverse_iff]
  exact ⟨fun h before after e a reg htrace => h before e after htrace a reg,
    fun h before e after htrace a reg => h before after e a reg htrace⟩

/-! ## Reset (R200, R201) -/

/-- Settles O51: at power-up and after the event the block is `Block.reset` and the trace is empty. -/
theorem resetSetsEveryElement : Obligations.ResetSetsEveryElement := by
  refine ⟨fun s hs => ?_, step_of_nextWord_none rfl rfl⟩
  obtain ⟨hblock, htrace⟩ : s.block = Block.reset ∧ s.transport.trace = [] := by
    obtain rfl | ⟨s', rfl⟩ := hs <;> exact ⟨rfl, rfl⟩
  rw [hblock]
  exact ⟨rfl, rfl, rfl, rfl, rfl, rfl, rfl, htrace, fun w => exists_memWrite_next_iff.2 ⟨rfl, rfl⟩⟩

/-- Settles O52: the step is the reset event, which writes the block and the trace alone. -/
theorem resetIssuesNoCall : Obligations.ResetIssuesNoCall := fun s rest hpend =>
  ⟨(s.setPending rest).assertReset, step_of_pending hpend, rfl, rfl, rfl, rfl⟩

/-- Settles O53: the block is `blockInv_reset`, and nothing has been called, read or programmed. -/
theorem resetMeetsInv : Obligations.ResetMeetsInv := ⟨blockInv_reset, rfl, rfl, rfl⟩

end Sys2Proof.Machine

/-!
PROOF. The known values of `pec` and of the step (95_test_vectors.md L2.1, L2.2), which the bit loop of R100 computes.
-/

namespace Sys2Proof.Machine

/-- Settles O13: the empty sequence and the single zero by the laws of `pec`, each other value by running the loop. -/
theorem pecKnownValues : Obligations.PecKnownValues := by
  refine ⟨pecFrom_nil 0x00#8, pec_zero_cons [], ?_, ?_, ?_, ?_, ?_, ?_, ?_⟩
  all_goals decide +kernel

end Sys2Proof.Machine
